-- ==== Sys2Proof/Word.lean ====
section
/-! DEFINITION. The byte of the two serial lines, and the numbers by which the yard's items are named
(00_scope.md, Numbering of yard items). An item's number on the wire is its index plus one. -/

namespace Sys2Proof

/-- One byte of a frame (R186). -/
abbrev Byte := BitVec 8

/-- H1 to H4: index 0 is H1. -/
abbrev HolderId := Fin 4

/-- G1 to G4. -/
abbrev GovernorId := Fin 4

/-- D1 to D6. -/
abbrev DistrictId := Fin 6

/-- The valve index of R42 less one: inlets are 0 to 3, outlet Hh→Gg is 4 + 4·h + g with h and g counted from 0. -/
abbrev ValveId := Fin 20

/-- Alert groups 1 to 7: index 0 is group 1. -/
abbrev GroupId := Fin 7

end Sys2Proof
end

