-- ==== Sys2Proof/Syntax.lean ====
section
/-! DEFINITION. The commands the block takes: one constructor of Instr for each row of spec/opcode_table.json,
with the operands the row's rule names. Operands of host requests are the numbers a frame carries
(R188 to R190), so that every refusal of the control port can be reached. -/

namespace Sys2Proof

/-- The level on a contact input (R9). -/
inductive Level where
  | opened
  | closed
  deriving DecidableEq, Repr

/-- The contact inputs of R9: mark and landed contact of each holder, end switches of each valve, the yard trip. -/
inductive ContactId where
  | mark (h : HolderId)
  | landed (h : HolderId)
  | openSwitch (v : ValveId)
  | shutSwitch (v : ValveId)
  | trip
  deriving DecidableEq, Repr

/-- The inputs whose raw level can change (R9, R173): a contact, or the baud strap, which is not debounced and is read
only at a start. -/
inductive RawInput where
  | contact (c : ContactId)
  | strap
  deriving DecidableEq, Repr

/-- The encoder's phase pair (R6). -/
structure PhasePair where
  a : Bool
  b : Bool
  deriving DecidableEq, Repr

/-- The kind of a start (R183). -/
inductive StartKind where
  | cold
  | warm
  deriving DecidableEq, Repr

/-- What an OPEN request names (R59): numbers as the host gave them, a time limit only where one is given. -/
inductive OpenRequest where
  | fill (holder target : Nat) (limit : Option Nat)
  | send (holder governor : Nat)
  deriving DecidableEq, Repr

/-- What an ENROL request names (R128): kind as numbered in 11.3, the two binding bytes, the optional increment. -/
structure EnrolRequest where
  address : Nat
  kind : Nat
  bindingA : Nat
  bindingB : Nat
  maxIncrement : Option Nat
  deriving DecidableEq, Repr

/-- What an ACKNOWLEDGE request names (R167): a group and, optionally, a cause kind number and an item. -/
structure AcknowledgeRequest where
  group : Nat
  named : Option (Nat × Nat)
  deriving DecidableEq, Repr

/-- The commands, one for each row of spec/opcode_table.json. -/
inductive Instr where
  /-- READ (R176): record kind number and two-byte key. -/
  | read (kind key : Nat)
  /-- LIST_ORDERS (R58). -/
  | listOrders
  /-- LIST_ROSTER (R126). -/
  | listRoster
  /-- AMEND (R177): record kind, key, and pairs of field number and value; the standby list is given as the number its four bytes spell. -/
  | amend (kind key : Nat) (pairs : List (Nat × Int))
  /-- OPEN (R59). -/
  | openOrder (r : OpenRequest)
  /-- CANCEL (R74). -/
  | cancel (number : Nat)
  /-- RETIRE_ORDER (R76). -/
  | retireOrder (number : Nat)
  /-- RETIRE_STATION (R129). -/
  | retireStation (address : Nat)
  /-- ENROL (R128). -/
  | enrol (r : EnrolRequest)
  /-- ACKNOWLEDGE (R167). -/
  | acknowledge (r : AcknowledgeRequest)
  /-- SUMMARY (R170). -/
  | summary
  /-- STORE (R180). -/
  | store
  /-- RESTART (R184). -/
  | restart (kind : StartKind)
  /-- CONTROL_FRAME_RECEIVED (R174): the bytes of the frame in the order they arrive. -/
  | controlFrameReceived (bytes : List Byte)
  /-- FRAME_GAP_SILENCE (R173). -/
  | frameGapSilence
  /-- REPLY_SENT (R174). -/
  | replySent
  /-- STORE_WRITE_END (R181): whether the image read back passes its check. -/
  | storeWriteEnd (checkPasses : Bool)
  /-- POWER_ON (R183): whether the retained memory's check passes, and the baud strap as it stands (R173). -/
  | powerOn (retainedPasses : Bool) (strapMade : Bool)
  /-- ENCODER_STEP (R6): the new phase pair of the holder's encoder. -/
  | encoderStep (h : HolderId) (p : PhasePair)
  /-- CONTACT_RAW_CHANGE (R9): the new level of the input. -/
  | contactRawChange (i : RawInput) (l : Level)
  /-- DEBOUNCE_EXPIRY (R9). -/
  | debounceExpiry (c : ContactId)
  /-- TRAVEL_TIMER_EXPIRY (R48). -/
  | travelTimerExpiry (v : ValveId)
  /-- TIME_LIMIT_EXPIRY (R68): the order by its number. -/
  | timeLimitExpiry (number : Nat)
  /-- ADJUST_TIMER_EXPIRY (R117). -/
  | adjustTimerExpiry (g : GovernorId)
  /-- CLOCK_ADVANCE (R154). -/
  | clockAdvance
  /-- CYCLE_TIMER_EXPIRY (R130). -/
  | cycleTimerExpiry
  /-- GAP_END (R131). -/
  | gapEnd
  /-- CALL_SENT (R132). -/
  | callSent
  /-- ANSWER_RECEIVED (R133): the bytes of the complete frame. -/
  | answerReceived (bytes : List Byte)
  /-- ANSWER_TIMEOUT (R132). -/
  | answerTimeout
  /-- CONTROL_LINE_BYTE (R173). -/
  | controlLineByte (b : Byte)
  /-- POWER_LOSS (R181). -/
  | powerLoss
  deriving DecidableEq, Repr

end Sys2Proof
end

