-- ==== Sys2Proof/Decode.lean ====
section
/-! DEFINITION. The decoder of the table's words. The block has no instruction words: no row of spec/opcode_table.json
gives bits, so no word spells a command. Requests are read from frames in Machine/ControlLine.lean. -/

namespace Sys2Proof

/-- The command a word spells: none, since no row of the table has bits. -/
def decodeTableWord (_nbits _w : Nat) : Option Instr := none

end Sys2Proof
end

