-- ==== Sys2Proof/Config.lean ====
section
/-! DEFINITION. What the HY-4 fixes: constants of the manual that no setting amends, and the one free value. -/

namespace Sys2Proof.Config

/-- The frame gap of the control line, in milliseconds (R172). -/
def frameGapMs : Nat := 50

/-- The gap after a call on the field line, in milliseconds (R131). -/
def callGapMs : Nat := 5

/-- One minute of the yard clock, in milliseconds (R154). -/
def minuteMs : Nat := 60000

/-- Order records the book holds, live and ENDED together (R57). -/
def bookCapacity : Nat := 16

/-- Stations the roster holds (R126). -/
def rosterCapacity : Nat := 32

/-- Instances one reply lists at most (R170). -/
def listedInstances : Nat := 24

/-- Where a volume or MJ figure is held (R151). -/
def figureLimit : Nat := 999999999

/-- FREE VALUE. R117: at an expiry of an adjust timer the trim step and the silent retry may be taken in
either order, and the spec gives no rule for it. True says the retry goes first. Applied to State.choices,
so that every expiry where the order can matter draws a choice of its own (log entry 4). -/
opaque retryFirst : Nat → Bool

end Sys2Proof.Config
end

