-- ==== Sys2Proof/Machine/State.lean ====
section
/-! DEFINITION. Everything the spec gives the HY-4, as plain data, and the state right after reset.
Records are those of chapters 1 to 10; a field that the spec calls a copy or a derived field of another
record is not stored twice (it is computed in Ops.lean or at the READ). -/

namespace Sys2Proof.Machine

/-- Why the block stops. The spec describes no event that stops the module, so no meaning raises this. -/
inductive Fault where
  /-- Raised by nobody: the spec gives the module no fault that stops it. Safe. -/
  | moduleStopped
  deriving DecidableEq, Repr

/-- Why a command has no meaning. -/
inductive Refusal where
  /-- Raised by an arm of exec whose command has no meaning yet. Safe: the block stops. No arm raises it. -/
  | notModelled (mnemonic : String)
  deriving DecidableEq, Repr

/-! ## Named values -/

/-- Whether a holder is in use (R4). -/
inductive Service where
  | inUse
  | out
  deriving DecidableEq, Repr

/-- The module's confidence in a gauge height (R4, 1.5). -/
inductive GaugeStatus where
  | unset
  | good
  | doubtful
  | slipped
  deriving DecidableEq, Repr

/-- Where a holder stands against its limit heights (R4, R15). -/
inductive LimitCondition where
  | lowStop
  | lowWarn
  | normal
  | highWarn
  | highStop
  deriving DecidableEq, Repr

/-- A debounced end switch as the valve unit reads it (R44). -/
inductive SwitchState where
  | made
  | broken
  | unknown
  deriving DecidableEq, Repr

/-- The yard trip input state (R77). -/
inductive TripState where
  | active
  | inactive
  | unknown
  deriving DecidableEq, Repr

/-- Why a valve stands in FAULT (R44). -/
inductive FaultReason where
  | travel
  | bothSwitches
  | unbidden
  | position
  deriving DecidableEq, Repr

/-- A valve's position or motion (R44). The fault reason is present exactly while the state is FAULT. -/
inductive ValveState where
  | shut
  | opening
  | opened
  | closing
  | fault (r : FaultReason)
  deriving DecidableEq, Repr

/-- Which drive output is asserted (R44): both can never be asserted together. -/
inductive Drive where
  | off
  | toOpen
  | toShut
  deriving DecidableEq, Repr

/-- What a command to a valve names (R45). -/
inductive Toward where
  | toOpen
  | toShut
  deriving DecidableEq, Repr

/-- Why an order ended (R56), in the order of its table. -/
inductive EndReason where
  | target
  | highStop
  | timedOut
  | tripped
  | gauge
  | relieved
  | lowStop
  | cancelled
  | valveFault
  | notReady
  | takenOut
  | interrupted
  deriving DecidableEq, Repr

/-- The state of an order (R56). The end reason is present exactly while it is ENDED. -/
inductive OrderState where
  | queued
  | opening
  | filling
  | changing
  | leading
  | ended (r : EndReason)
  deriving DecidableEq, Repr

/-- How a lead was made (R84). -/
inductive LeadOrigin where
  | order (number : Nat)
  | automatic
  | start
  deriving DecidableEq, Repr

/-- What made a changeover (R84). -/
inductive ChangeoverBy where
  | order (number : Nat)
  | automatic
  deriving DecidableEq, Repr

/-- The supply status of a governor (R86). -/
inductive SupplyStatus where
  | fed
  | blind
  | unfed
  deriving DecidableEq, Repr

/-- What a district asks of its governor, and a governor's combined request (R104, R109). -/
inductive Request where
  | raise
  | hold
  | lower
  deriving DecidableEq, Repr

/-- How two districts' requests are combined (R108). -/
inductive Mode where
  | secure
  | economy
  | balanced
  deriving DecidableEq, Repr

/-- The rule applied at a combination (R109). -/
inductive Combining where
  | secure
  | economy
  deriving DecidableEq, Repr

/-- A governor station's mode (R120). -/
inductive StationMode where
  | normal
  | localMode
  deriving DecidableEq, Repr

/-- Band table A or B (R114). -/
inductive Band where
  | a
  | b
  deriving DecidableEq, Repr

/-- The link state of a station (R125). -/
inductive Link where
  | unheard
  | active
  | lost
  deriving DecidableEq, Repr

/-- Mains power as it stands (R181, R183). -/
inductive Power where
  | up
  | down
  deriving DecidableEq, Repr

/-- The receiver state of the control port (R172). -/
inductive Receiver where
  | listening
  | assembling
  | replying
  | settling
  deriving DecidableEq, Repr

/-- The twenty-eight cause kinds in the order of the table of R162. -/
inductive CauseKind where
  | tripActive
  | restarted
  | storeFailed
  | storeInvalid
  | clockUnset
  | unfed
  | supplyLimited
  | changeoverDone
  | changeoverFailed
  | governorLocal
  | notFollowing
  | lowStop
  | lowWarn
  | highWarn
  | highStop
  | orderEnded
  | valveFault
  | gaugeUnset
  | gaugeDoubtful
  | gaugeSlipped
  | conditionsAssumed
  | stationLost
  | pointFault
  | cycleOverrun
  | meterJump
  | unaccountedHigh
  | balanceIncomplete
  | cvAssumed
  deriving DecidableEq, Repr

/-! ## Configuration (R179: what the image holds) -/

/-- Holder configuration fields (R1). Entries above L are kept. -/
structure HolderSettings where
  lifts : Nat
  area : Vector Nat 4
  stroke : Vector Nat 4
  pressure : Vector Nat 4
  lowStop : Nat
  lowWarn : Nat
  highWarn : Nat
  highStop : Nat
  hysteresis : Nat
  markTolerance : Nat
  deriving DecidableEq, Repr

/-- Valve configuration fields (R42). -/
structure ValveSettings where
  fitted : Bool
  travelLimit : Nat
  deriving DecidableEq, Repr

/-- Governor configuration fields (R83, R108). -/
structure GovernorSettings where
  minSetpoint : Nat
  maxSetpoint : Nat
  step : Nat
  trimLimit : Nat
  mode : Mode
  balanceBand : Nat
  adjustPeriod : Nat
  standby : List HolderId
  autoChangeover : Bool
  mainLoss : Nat
  bandA : Vector Nat 24
  bandB : Vector Nat 24
  deriving DecidableEq, Repr

/-- District configuration fields (R103). -/
structure DistrictSettings where
  governor : GovernorId
  fMin : Nat
  band : Nat
  deriving DecidableEq, Repr

/-- Yard settings (R9, R37, Field-line settings of chapter 7, R144, R163). -/
structure YardSettings where
  debounce : Nat
  cyclePeriod : Nat
  answerTimeout : Nat
  declaredCv : Nat
  cvFloor : Nat
  cvCeiling : Nat
  closeMinute : Nat
  tolerance : Nat
  week : Vector Band 7
  threshold : Nat
  deriving DecidableEq, Repr

/-- Every configuration field but the roster's. -/
structure Settings where
  holders : Vector HolderSettings 4
  valves : Vector ValveSettings 20
  governors : Vector GovernorSettings 4
  districts : Vector DistrictSettings 6
  profiles : Vector Nat 16
  yard : YardSettings
  levels : Vector Nat 7
  enables : Vector Bool 28
  deriving DecidableEq, Repr

/-- A station's kind with its binding (R125). -/
inductive StationKind where
  | yard
  | make
  | governor (g : GovernorId)
  | dmeter (d : DistrictId)
  | point (d : DistrictId) (slot : Fin 3)
  deriving DecidableEq, Repr

/-- Station configuration fields (R125). The increment is that of MAKE and DMETER stations. -/
structure StationSettings where
  address : Nat
  kind : StationKind
  maxIncrement : Nat
  deriving DecidableEq, Repr

/-- Every configuration field, with the roster in call order: what the image holds (R179). -/
structure Configuration where
  settings : Settings
  roster : List StationSettings
  deriving DecidableEq, Repr

/-- The store state (R179), with the configuration being written while WRITING (R180). -/
inductive StoreState where
  | idle
  | writing (copy : Configuration)
  | failed
  deriving DecidableEq, Repr

/-- The configuration store: the image, absent while it is invalid, and the store state. -/
structure Store where
  image : Option Configuration
  state : StoreState
  deriving DecidableEq, Repr

/-! ## Live records -/

/-- A pending change of a contact: the new level and the moment it was first seen (R9). -/
structure ContactChange where
  level : Level
  since : Nat
  deriving DecidableEq, Repr

/-- One contact input (R9). An absent debounced state is unknown. -/
structure Contact where
  raw : Level
  debounced : Option Level
  change : Option ContactChange
  deriving DecidableEq, Repr

/-- All contact inputs of R9. -/
structure Contacts where
  marks : Vector Contact 4
  landed : Vector Contact 4
  openSwitches : Vector Contact 20
  shutSwitches : Vector Contact 20
  trip : Contact
  deriving DecidableEq, Repr

/-- Holder live fields (R4, R6). -/
structure Holder where
  service : Service
  height : Nat
  status : GaugeStatus
  stock : Option Nat
  floating : Nat
  pressure : Nat
  meanCv : Option Nat
  gasTemp : Int
  assumed : Bool
  limit : LimitCondition
  phases : PhasePair
  deriving DecidableEq, Repr

/-- A running travel: the travel limit in force in seconds (R44) and the moment the timer started. -/
structure Travel where
  limit : Nat
  since : Nat
  deriving DecidableEq, Repr

/-- Valve live fields (R44). -/
structure Valve where
  state : ValveState
  drive : Drive
  travel : Option Travel
  deriving DecidableEq, Repr

/-- What a FILL or a SEND order carries of its own (R56). -/
inductive OrderKind where
  | fill (target : Nat) (limit : Option Nat)
  | send (governor : GovernorId)
  deriving DecidableEq, Repr

/-- One order record (R56). The limit timer is held by the moment it started (R66). -/
structure Order where
  number : Nat
  kind : OrderKind
  holder : HolderId
  state : OrderState
  minuteOpened : Nat
  startStock : Option Nat
  endStock : Option Nat
  limitTimer : Option Nat
  deriving DecidableEq, Repr

/-- The order book (R57). -/
structure OrderBook where
  orders : List Order
  lastIssued : Nat
  deriving DecidableEq, Repr

/-- A lead holder and how it was made (R84). -/
structure Lead where
  holder : HolderId
  origin : LeadOrigin
  deriving DecidableEq, Repr

/-- A changeover in flight (R84, R91). -/
structure Changeover where
  holder : HolderId
  made : ChangeoverBy
  deriving DecidableEq, Repr

/-- A set of triggers (R84, R93). -/
structure Triggers where
  warn : Bool
  ceiling : Bool
  removal : Bool
  deriving DecidableEq, Repr

/-- Governor live fields: the supply unit's (R84) and the pressure loop's (R109, R117). -/
structure Governor where
  lead : Option Lead
  slot : Option Changeover
  status : SupplyStatus
  ceiling : Option Int
  short : Bool
  deferred : Triggers
  retry : Bool
  request : Request
  combining : Combining
  trim : Int
  base : Nat
  desired : Int
  commanded : Nat
  taken : Option Nat
  stationMode : Option StationMode
  notFollowing : Nat
  adjustSince : Nat
  deriving DecidableEq, Repr

/-- District far-end fields (R104). -/
structure District where
  farEnd : Option Nat
  margin : Option Int
  request : Request
  blind : Bool
  deriving DecidableEq, Repr

/-- An energy figure: whole MJ with a kJ remainder (R151). -/
structure Energy where
  mj : Nat
  kj : Nat
  deriving DecidableEq, Repr

/-- A volume with its energy and its CV-assumed flag: today's or yesterday's figures (R143). -/
structure Figures where
  volume : Nat
  energy : Energy
  cvAssumed : Bool
  deriving DecidableEq, Repr

/-- District account fields (R143). -/
structure Account where
  lastIndex : Option Nat
  today : Figures
  yesterday : Figures
  deriving DecidableEq, Repr

/-- The closed day (R157). -/
structure ClosedDay where
  dayIndex : Nat
  opening : Option Nat
  makeVolume : Nat
  makeEnergy : Energy
  sendVolume : Nat
  sendEnergy : Energy
  closing : Option Nat
  unaccounted : Option Int
  incomplete : Bool
  deriving DecidableEq, Repr

/-- The yard account (R144). -/
structure YardAccount where
  opening : Option Nat
  makeVolume : Nat
  makeEnergy : Energy
  lastMakeIndex : Option Nat
  closedDay : Option ClosedDay
  deriving DecidableEq, Repr

/-- The yard clock (R154), with the minutes counted while mains was off (R161) and the moment of the last advance. -/
structure Clock where
  minute : Nat
  isSet : Bool
  dayIndex : Nat
  minutesDown : Nat
  since : Nat
  deriving DecidableEq, Repr

/-- The contents of a good answer (R133). -/
inductive Answer where
  | yard (barometer : Nat) (temps : Vector (Option Int) 4)
  | make (index linePressure : Nat) (temp : Int) (cv : Nat)
  | governor (taken : Nat) (mode : StationMode)
  | dmeter (index linePressure : Nat) (temp : Int)
  | point (pressure : Nat) (sensorGood : Bool)
  deriving DecidableEq, Repr

/-- A station record (R125). -/
structure Station where
  cfg : StationSettings
  link : Link
  misses : Nat
  answer : Option Answer
  deriving DecidableEq, Repr

/-- A call from its making to its end (R132): the setpoint carried (R121), whether it is discarded (R129), and the answer timeout it was made with (R127). -/
structure Call where
  address : Nat
  kind : StationKind
  carried : Option Nat
  discarded : Bool
  timeout : Nat
  deriving DecidableEq, Repr

/-- What the field line does (R131, R132): no cycle, a call being sent, a call waiting for its answer, or the gap. -/
inductive LineActivity where
  | idle
  | sending (c : Call)
  | waiting (c : Call) (since : Nat)
  | gap (since : Nat)
  deriving DecidableEq, Repr

/-- The field line unit (R126, R130, R131). -/
structure FieldLine where
  roster : List Station
  activity : LineActivity
  position : Nat
  owed : Bool
  cycleSince : Nat
  deriving DecidableEq, Repr

/-- A cause with its item, 0 where the kind has none (R162, R190). -/
structure Cause where
  kind : CauseKind
  item : Nat
  deriving DecidableEq, Repr

/-- A pending instance (R164). Count is 0 for a condition. -/
structure Pending where
  cause : Cause
  acknowledged : Bool
  count : Nat
  minuteRaised : Nat
  minuteLast : Nat
  deriving DecidableEq, Repr

/-- The alert unit: the list of R164, the conditions that hold (R165), the events raised within the present
step that have not joined the list yet, and the attention output (R169). -/
structure Alerts where
  list : List Pending
  holds : List Cause
  fresh : List Pending
  attention : Bool
  deriving DecidableEq, Repr

/-- The control port (R172, R184). The reply is the body of the reply in progress. -/
structure Port where
  receiver : Receiver
  frame : List Byte
  reply : Option (List Byte)
  restart : Option StartKind
  quietSince : Nat
  deriving DecidableEq, Repr

/-- The conditions of the yard the stock unit holds (R30, R38). -/
structure Conditions where
  barometer : Nat
  barometerAssumed : Bool
  lastMakeCv : Option Nat
  deriving DecidableEq, Repr

/-- The whole block. pending is the queue of waiting commands; now and choices are the model's own
(log entries 3 and 4); everything else is the spec's. -/
structure State where
  pending : List Instr
  now : Nat
  choices : Nat
  power : Power
  strapMade : Bool
  lineSpeed : Nat
  settings : Settings
  holders : Vector Holder 4
  contacts : Contacts
  conditions : Conditions
  valves : Vector Valve 20
  book : OrderBook
  governors : Vector Governor 4
  districts : Vector District 6
  accounts : Vector Account 6
  yard : YardAccount
  clock : Clock
  line : FieldLine
  alerts : Alerts
  port : Port
  store : Store
  deriving DecidableEq, Repr

/-! ## Factory defaults -/

/-- The factory holder (R1). -/
def factoryHolder : HolderSettings where
  lifts := 3
  area := Vector.replicate 4 1000
  stroke := Vector.replicate 4 8000
  pressure := #v[1250, 1750, 2150, 2450]
  lowStop := 1000
  lowWarn := 3000
  highWarn := 21000
  highStop := 23000
  hysteresis := 150
  markTolerance := 100

/-- The factory governor (R83, R108). -/
def factoryGovernor : GovernorSettings where
  minSetpoint := 800
  maxSetpoint := 2500
  step := 25
  trimLimit := 400
  mode := .secure
  balanceBand := 200
  adjustPeriod := 60
  standby := []
  autoChangeover := true
  mainLoss := 150
  bandA := Vector.replicate 24 0
  bandB := Vector.replicate 24 0

/-- The factory yard settings (R9, R37, chapter 7, R144, R163). -/
def factoryYard : YardSettings where
  debounce := 50
  cyclePeriod := 10
  answerTimeout := 150
  declaredCv := 17500
  cvFloor := 15000
  cvCeiling := 21000
  closeMinute := 360
  tolerance := 40
  week := Vector.replicate 7 .a
  threshold := 4

/-- An inlet is fitted and an outlet is not (R42). -/
def factoryValves : Vector ValveSettings 20 :=
  Vector.replicate 4 (⟨true, 120⟩ : ValveSettings) ++ Vector.replicate 16 (⟨false, 120⟩ : ValveSettings)

/-- Every factory default (R182). -/
def factorySettings : Settings where
  holders := Vector.replicate 4 factoryHolder
  valves := factoryValves
  governors := Vector.replicate 4 factoryGovernor
  districts := #v[⟨0, 1000, 300⟩, ⟨0, 1000, 300⟩, ⟨1, 1000, 300⟩, ⟨1, 1000, 300⟩, ⟨2, 1000, 300⟩, ⟨3, 1000, 300⟩]
  profiles := #v[1200, 1500, 1500, 1500, 1500, 1500, 1500, 1500, 1500, 1500, 1500, 1500, 1500, 1500, 1500, 1500]
  yard := factoryYard
  levels := #v[6, 6, 5, 5, 4, 3, 2]
  enables := Vector.replicate 28 true

/-! ## Cold-start values -/

/-- A holder's live fields after a cold start (R5), with the phase pair found on the inputs. -/
def coldHolder (p : PhasePair) : Holder where
  service := .inUse
  height := 0
  status := .unset
  stock := none
  floating := 0
  pressure := 0
  meanCv := none
  gasTemp := 150
  assumed := true
  limit := .normal
  phases := p

/-- No trigger. -/
def noTriggers : Triggers := ⟨false, false, false⟩

/-- A governor's live fields at a cold start before leads, base and setpoints are found (R84, R109, R124). -/
def coldGovernor (now : Nat) : Governor where
  lead := none
  slot := none
  status := .unfed
  ceiling := none
  short := false
  deferred := noTriggers
  retry := false
  request := .hold
  combining := .secure
  trim := 0
  base := 0
  desired := 0
  commanded := 0
  taken := none
  stationMode := none
  notFollowing := 0
  adjustSince := now

/-- A district's far-end fields at either start (R124). -/
def startDistrict : District where
  farEnd := none
  margin := none
  request := .hold
  blind := true

/-- Zero figures (R143, R160). -/
def zeroFigures : Figures := ⟨0, ⟨0, 0⟩, false⟩

/-- A district account at a cold start (R160). -/
def coldAccount : Account := ⟨none, zeroFigures, zeroFigures⟩

/-- The yard account at a cold start (R160). -/
def coldYardAccount : YardAccount := ⟨none, 0, ⟨0, 0⟩, none, none⟩

/-- The yard conditions at a cold start (R31, R38). -/
def coldConditions : Conditions := ⟨101325, true, none⟩

/-- A valve that is SHUT with its drives off (R43, R55). -/
def shutValve : Valve := ⟨.shut, .off, none⟩

/-- A contact right after a start: unknown, with the level on the input pending (R9). -/
def startContact (raw : Level) (now : Nat) : Contact := ⟨raw, none, some ⟨raw, now⟩⟩

/-- An event instance pending with count 1, raised at minute 0. -/
def resetEvent (k : CauseKind) (item : Nat) : Pending := ⟨⟨k, item⟩, false, 1, 0, 0⟩

/-- A condition instance that arose at minute 0. -/
def resetCondition (c : Cause) : Pending := ⟨c, false, 0, 0, 0⟩

/-- The conditions that hold right after a cold start with factory defaults (R171). -/
def resetHolds : List Cause :=
  [⟨.clockUnset, 0⟩, ⟨.unfed, 1⟩, ⟨.unfed, 2⟩, ⟨.unfed, 3⟩, ⟨.unfed, 4⟩,
   ⟨.gaugeUnset, 1⟩, ⟨.gaugeUnset, 2⟩, ⟨.gaugeUnset, 3⟩, ⟨.gaugeUnset, 4⟩, ⟨.conditionsAssumed, 0⟩]

/-- The machine right after reset: a cold start with an invalid image, so with factory defaults (R182, R183),
inputs and strap as log entry 5 names them, moment 0. The yard stands shut and its trip loop is closed. -/
def State.reset : State where
  pending := []
  now := 0
  choices := 0
  power := .up
  strapMade := false
  lineSpeed := 9600
  settings := factorySettings
  holders := Vector.replicate 4 (coldHolder ⟨false, false⟩)
  contacts :=
    { marks := Vector.replicate 4 (startContact .opened 0)
      landed := Vector.replicate 4 (startContact .opened 0)
      openSwitches := Vector.replicate 20 (startContact .opened 0)
      shutSwitches := Vector.replicate 20 (startContact .closed 0)
      trip := startContact .closed 0 }
  conditions := coldConditions
  valves := Vector.replicate 20 shutValve
  book := ⟨[], 0⟩
  governors := Vector.replicate 4 { coldGovernor 0 with base := 1200, desired := 1200, commanded := 1200 }
  districts := Vector.replicate 6 startDistrict
  accounts := Vector.replicate 6 coldAccount
  yard := coldYardAccount
  clock := ⟨0, false, 0, 0, 0⟩
  line := ⟨[], .idle, 0, false, 0⟩
  alerts :=
    { list := resetEvent .restarted 1 :: resetEvent .storeInvalid 0 :: resetHolds.map resetCondition
      holds := resetHolds
      fresh := []
      attention := true }
  port := ⟨.settling, [], none, none, 0⟩
  store := ⟨none, .idle⟩

end Sys2Proof.Machine
end

