-- ==== Sys2Proof/Machine/Ops.lean ====
section
/-! DEFINITION. The named operations over the state: one reader and one writer for every record, the views of a
record that the spec calls copies of another, and the raising of an event. Every other file goes through these. -/

namespace Sys2Proof.Machine

/-! ## Lists of the yard's items, in number order -/

/-- H1 to H4. -/
def holderIds : List HolderId := [0, 1, 2, 3]

/-- G1 to G4. -/
def governorIds : List GovernorId := [0, 1, 2, 3]

/-- D1 to D6. -/
def districtIds : List DistrictId := [0, 1, 2, 3, 4, 5]

/-- Valve indexes 1 to 20 of R42. -/
def valveIds : List ValveId := [0, 1, 2, 3, 4, 5, 6, 7, 8, 9, 10, 11, 12, 13, 14, 15, 16, 17, 18, 19]

/-- Applies an operation for each item of a list in turn. -/
def forEach {ι : Type} (xs : List ι) (f : ι → State → State) (s : State) : State :=
  xs.foldl (fun t x => f x t) s

/-! ## Valve positions (R42) -/

/-- What a valve position is: the inlet of a holder, or the outlet of a holder and governor pair. -/
inductive ValveRole where
  | inlet (h : HolderId)
  | outlet (h : HolderId) (g : GovernorId)
  deriving DecidableEq, Repr

/-- The valve position of a holder's inlet. -/
def inletOf (h : HolderId) : ValveId := ⟨h.val, by omega⟩

/-- The valve position of a holder and governor pair: index 4 + 4·(h − 1) + g of R42. -/
def outletOf (h : HolderId) (g : GovernorId) : ValveId := ⟨4 + 4 * h.val + g.val, by omega⟩

/-- The role of a valve position (R42). -/
def roleOf (v : ValveId) : ValveRole :=
  if hv : v.val < 4 then .inlet ⟨v.val, hv⟩
  else .outlet ⟨(v.val - 4) / 4, by omega⟩ ⟨(v.val - 4) % 4, by omega⟩

/-! ## Readers and writers -/

/-- A holder's live fields. -/
def State.holder (s : State) (h : HolderId) : Holder := s.holders[h]

/-- A holder's configuration. -/
def State.holderCfg (s : State) (h : HolderId) : HolderSettings := s.settings.holders[h]

/-- A valve's live fields. -/
def State.valve (s : State) (v : ValveId) : Valve := s.valves[v]

/-- A valve's configuration. -/
def State.valveCfg (s : State) (v : ValveId) : ValveSettings := s.settings.valves[v]

/-- A governor's live fields. -/
def State.governor (s : State) (g : GovernorId) : Governor := s.governors[g]

/-- A governor's configuration. -/
def State.governorCfg (s : State) (g : GovernorId) : GovernorSettings := s.settings.governors[g]

/-- A district's far-end fields. -/
def State.district (s : State) (d : DistrictId) : District := s.districts[d]

/-- A district's configuration. -/
def State.districtCfg (s : State) (d : DistrictId) : DistrictSettings := s.settings.districts[d]

/-- A district's account. -/
def State.account (s : State) (d : DistrictId) : Account := s.accounts[d]

/-- The yard settings. -/
def State.yardCfg (s : State) : YardSettings := s.settings.yard

/-- Writes a holder's live fields. -/
def State.setHolder (s : State) (h : HolderId) (x : Holder) : State := { s with holders := s.holders.set h x }

/-- Writes a valve's live fields. -/
def State.setValve (s : State) (v : ValveId) (x : Valve) : State := { s with valves := s.valves.set v x }

/-- Writes a governor's live fields. -/
def State.setGovernor (s : State) (g : GovernorId) (x : Governor) : State :=
  { s with governors := s.governors.set g x }

/-- Writes a district's far-end fields. -/
def State.setDistrict (s : State) (d : DistrictId) (x : District) : State :=
  { s with districts := s.districts.set d x }

/-- Writes a district's account. -/
def State.setAccount (s : State) (d : DistrictId) (x : Account) : State :=
  { s with accounts := s.accounts.set d x }

/-- Writes the order records. -/
def State.setOrders (s : State) (os : List Order) : State := { s with book := { s.book with orders := os } }

/-- Writes the configuration but the roster's. -/
def State.setSettings (s : State) (c : Settings) : State := { s with settings := c }

/-- Writes the field line unit. -/
def State.setLine (s : State) (l : FieldLine) : State := { s with line := l }

/-- Writes the alert unit. -/
def State.setAlerts (s : State) (a : Alerts) : State := { s with alerts := a }

/-- Writes the yard account. -/
def State.setYard (s : State) (y : YardAccount) : State := { s with yard := y }

/-- Writes the yard clock. -/
def State.setClock (s : State) (c : Clock) : State := { s with clock := c }

/-- Writes the yard conditions. -/
def State.setConditions (s : State) (c : Conditions) : State := { s with conditions := c }

/-- Writes the control port. -/
def State.setPort (s : State) (p : Port) : State := { s with port := p }

/-- Writes the configuration store. -/
def State.setStore (s : State) (x : Store) : State := { s with store := x }

/-- Writes the contact inputs. -/
def State.setContacts (s : State) (c : Contacts) : State := { s with contacts := c }

/-! ## Contacts (R9) -/

/-- Every contact input, in the order this model takes them where the spec fixes none (log entry 7). -/
def contactIds : List ContactId :=
  holderIds.map .mark ++ holderIds.map .landed ++ valveIds.map .openSwitch ++ valveIds.map .shutSwitch ++ [.trip]

/-- One contact of the inputs. -/
def Contacts.get (cs : Contacts) : ContactId → Contact
  | .mark h => cs.marks[h]
  | .landed h => cs.landed[h]
  | .openSwitch v => cs.openSwitches[v]
  | .shutSwitch v => cs.shutSwitches[v]
  | .trip => cs.trip

/-- The inputs with one contact replaced. -/
def Contacts.put (cs : Contacts) (c : ContactId) (x : Contact) : Contacts :=
  match c with
  | .mark h => { cs with marks := cs.marks.set h x }
  | .landed h => { cs with landed := cs.landed.set h x }
  | .openSwitch v => { cs with openSwitches := cs.openSwitches.set v x }
  | .shutSwitch v => { cs with shutSwitches := cs.shutSwitches.set v x }
  | .trip => { cs with trip := x }

/-- A contact input. -/
def State.contact (s : State) (c : ContactId) : Contact := s.contacts.get c

/-- Writes a contact input. -/
def State.setContact (s : State) (c : ContactId) (x : Contact) : State := s.setContacts (s.contacts.put c x)

/-- A debounced end switch as the valve unit reads it: CLOSED is MADE, OPEN is BROKEN (R44). -/
def switchState : Option Level → SwitchState
  | some .closed => .made
  | some .opened => .broken
  | none => .unknown

/-- A valve's open switch (R44). -/
def State.openSwitch (s : State) (v : ValveId) : SwitchState := switchState (s.contact (.openSwitch v)).debounced

/-- A valve's shut switch (R44). -/
def State.shutSwitch (s : State) (v : ValveId) : SwitchState := switchState (s.contact (.shutSwitch v)).debounced

/-- The yard trip input state: counted OPEN is ACTIVE, counted CLOSED is INACTIVE (R77). -/
def State.trip (s : State) : TripState :=
  match (s.contact .trip).debounced with
  | some .opened => .active
  | some .closed => .inactive
  | none => .unknown

/-! ## Copies the spec keeps of other records, found from their home -/

/-- Whether a holder is a governor's lead. -/
def State.leads (s : State) (h : HolderId) (g : GovernorId) : Bool :=
  match (s.governor g).lead with
  | some l => l.holder == h
  | none => false

/-- Whether a changeover of a governor to a holder is in flight, ordered or automatic. -/
def State.changingTo (s : State) (h : HolderId) (g : GovernorId) : Bool :=
  match (s.governor g).slot with
  | some c => c.holder == h
  | none => false

/-- The governors a holder leads, ascending (R4, R85). -/
def State.governorsLed (s : State) (h : HolderId) : List GovernorId := governorIds.filter (s.leads h)

/-- The districts whose governor field names the governor, in district order (R103). -/
def Settings.served (c : Settings) (g : GovernorId) : List DistrictId :=
  districtIds.filter fun d => c.districts[d].governor == g

/-- The governor's served districts (R103, R109). -/
def State.served (s : State) (g : GovernorId) : List DistrictId := s.settings.served g

/-- The enrolled station at an address. -/
def State.station (s : State) (address : Nat) : Option Station :=
  s.line.roster.find? fun st => st.cfg.address == address

/-- The enrolled station with a kind and binding; at most one has it (R126). -/
def State.stationOf (s : State) (k : StationKind) : Option Station :=
  s.line.roster.find? fun st => st.cfg.kind == k

/-- The address of the station with a kind and binding: the governor station of R108, the point slots of R104,
the meter station of R143 and the make meter of R144. -/
def State.addressOf (s : State) (k : StationKind) : Option Nat := (s.stationOf k).map (·.cfg.address)

/-! ## Order records -/

/-- Whether an order is a FILL. -/
def Order.isFill (o : Order) : Bool :=
  match o.kind with
  | .fill _ _ => true
  | .send _ => false

/-- Whether an order is a SEND for a governor. -/
def Order.isSendFor (o : Order) (g : GovernorId) : Bool :=
  match o.kind with
  | .fill _ _ => false
  | .send g' => g' == g

/-- Whether an order is ENDED. -/
def Order.isEnded (o : Order) : Bool :=
  match o.state with
  | .ended _ => true
  | _ => false

/-- Whether a FILL is running: in OPENING or FILLING (R56). -/
def Order.isRunningFill (o : Order) : Bool := o.isFill && (o.state == .opening || o.state == .filling)

/-- The order with a number (R58). -/
def State.order (s : State) (n : Nat) : Option Order := s.book.orders.find? fun o => o.number == n

/-- The holder's running FILL order (R4, R58). -/
def State.runningFill (s : State) (h : HolderId) : Option Order :=
  s.book.orders.find? fun o => o.holder == h && o.isRunningFill

/-- Replaces the order record that has the number of the one given. -/
def State.putOrder (s : State) (o : Order) : State :=
  s.setOrders (s.book.orders.map fun x => if x.number = o.number then o else x)

/-! ## Cause kinds (R162) -/

/-- The cause kinds in the order of the table of R162. -/
def causeKinds : List CauseKind :=
  [.tripActive, .restarted, .storeFailed, .storeInvalid, .clockUnset, .unfed, .supplyLimited, .changeoverDone,
   .changeoverFailed, .governorLocal, .notFollowing, .lowStop, .lowWarn, .highWarn, .highStop, .orderEnded,
   .valveFault, .gaugeUnset, .gaugeDoubtful, .gaugeSlipped, .conditionsAssumed, .stationLost, .pointFault,
   .cycleOverrun, .meterJump, .unaccountedHigh, .balanceIncomplete, .cvAssumed]

/-- A kind's place in that table, from 0. Its number in replies is this plus one (R190). -/
def CauseKind.index : CauseKind → Fin 28
  | .tripActive => 0
  | .restarted => 1
  | .storeFailed => 2
  | .storeInvalid => 3
  | .clockUnset => 4
  | .unfed => 5
  | .supplyLimited => 6
  | .changeoverDone => 7
  | .changeoverFailed => 8
  | .governorLocal => 9
  | .notFollowing => 10
  | .lowStop => 11
  | .lowWarn => 12
  | .highWarn => 13
  | .highStop => 14
  | .orderEnded => 15
  | .valveFault => 16
  | .gaugeUnset => 17
  | .gaugeDoubtful => 18
  | .gaugeSlipped => 19
  | .conditionsAssumed => 20
  | .stationLost => 21
  | .pointFault => 22
  | .cycleOverrun => 23
  | .meterJump => 24
  | .unaccountedHigh => 25
  | .balanceIncomplete => 26
  | .cvAssumed => 27

/-- A kind's group (R162). -/
def CauseKind.group : CauseKind → GroupId
  | .tripActive | .restarted | .storeFailed | .storeInvalid | .clockUnset => 0
  | .unfed | .supplyLimited | .changeoverDone | .changeoverFailed | .governorLocal | .notFollowing => 1
  | .lowStop | .lowWarn | .highWarn | .highStop | .orderEnded => 2
  | .valveFault => 3
  | .gaugeUnset | .gaugeDoubtful | .gaugeSlipped | .conditionsAssumed => 4
  | .stationLost | .pointFault | .cycleOverrun | .meterJump => 5
  | .unaccountedHigh | .balanceIncomplete | .cvAssumed => 6

/-- Whether a kind is an event; the others are conditions (R162). -/
def CauseKind.isEvent : CauseKind → Bool
  | .restarted | .storeFailed | .storeInvalid | .changeoverDone | .changeoverFailed | .orderEnded
  | .cycleOverrun | .meterJump | .unaccountedHigh | .balanceIncomplete => true
  | _ => false

/-- Whether instances of the kind are made pending (R163). -/
def State.enabled (s : State) (k : CauseKind) : Bool := s.settings.enables[k.index]

/-- A pending event raised once more: its count rises, held at 255 (R164). -/
def Pending.raisedAgain (p : Pending) (minute : Nat) : Pending :=
  { p with count := min 255 (p.count + 1), minuteLast := minute }

/-- Raises the instance with a cause again wherever it stands in a list. -/
def raiseIn (c : Cause) (minute : Nat) (ps : List Pending) : List Pending :=
  ps.map fun p => if p.cause = c then p.raisedAgain minute else p

/-- An owner raises an event (R164). A new instance waits in fresh until the step's end, so that the instances
of one step join the list in the order R164 gives. -/
def State.raise (s : State) (k : CauseKind) (item : Nat) : State :=
  let c : Cause := ⟨k, item⟩
  let a := s.alerts
  if !s.enabled k then s
  else if a.list.any (·.cause == c) then s.setAlerts { a with list := raiseIn c s.clock.minute a.list }
  else if a.fresh.any (·.cause == c) then s.setAlerts { a with fresh := raiseIn c s.clock.minute a.fresh }
  else s.setAlerts { a with fresh := a.fresh ++ [⟨c, false, 1, s.clock.minute, s.clock.minute⟩] }

/-- The number by which an item is named in alerts and on the wire. -/
def itemNo {n : Nat} (i : Fin n) : Nat := i.val + 1

end Sys2Proof.Machine
end

