-- ==== Sys2Proof/Machine/Valves.lean ====
section
/-! DEFINITION. The valve unit (chapter 3): commands, motions, counted switch changes and the start reading.
What the other blocks do with a report stands in Reports.lean. -/

namespace Sys2Proof.Machine

/-- A report of the valve unit (R53). -/
inductive Report where
  | arrivedOpen
  | arrivedShut
  | fault
  | recoveredOpen
  | recoveredShut
  deriving DecidableEq, Repr

/-- The target pattern of a motion: its end's switch MADE and the other BROKEN (R46). -/
def targetStands (t : Toward) (openSw shutSw : SwitchState) : Bool :=
  match t with
  | .toOpen => openSw == .made && shutSw == .broken
  | .toShut => shutSw == .made && openSw == .broken

/-- A valve at rest at an end: drive OFF, no travel (R47). -/
def Valve.atEnd (t : Toward) : Valve :=
  match t with
  | .toOpen => ⟨.opened, .off, none⟩
  | .toShut => ⟨.shut, .off, none⟩

/-- A valve in motion toward an end, its travel timer just started with the limit (R46). -/
def Valve.moving (t : Toward) (limit now : Nat) : Valve :=
  match t with
  | .toOpen => ⟨.opening, .toOpen, some ⟨limit, now⟩⟩
  | .toShut => ⟨.closing, .toShut, some ⟨limit, now⟩⟩

/-- A valve in FAULT: drive OFF, no travel (R51). -/
def Valve.faulted (r : FaultReason) : Valve := ⟨.fault r, .off, none⟩

/-- A motion started under R45: at once at its end if the target pattern already stands (R46). -/
def startMotion (t : Toward) (openSw shutSw : SwitchState) (limit now : Nat) : Valve :=
  if targetStands t openSw shutSw then Valve.atEnd t else Valve.moving t limit now

/-- Whether a command makes no change in a state (R45). -/
def ValveState.alreadyUnder (x : ValveState) (t : Toward) : Bool :=
  match t, x with
  | .toOpen, .opening | .toOpen, .opened | .toShut, .shut | .toShut, .closing => true
  | _, _ => false

/-- A command to a valve: no change, or a motion started, reversed or left FAULT by (R45). -/
def Valve.commanded (v : Valve) (t : Toward) (openSw shutSw : SwitchState) (limit now : Nat) : Valve :=
  if v.state.alreadyUnder t then v else startMotion t openSw shutSw limit now

/-- A command given to a valve position; an unfitted valve discards it (R43, R45). A report of an arrival at once
is taken by the block that gave the command, which reads the state. -/
def State.command (s : State) (v : ValveId) (t : Toward) : State :=
  if (s.valveCfg v).fitted then
    s.setValve v ((s.valve v).commanded t (s.openSwitch v) (s.shutSwitch v) (s.valveCfg v).travelLimit s.now)
  else s

/-- Whether a valve is in motion. -/
def Valve.travelling (v : Valve) : Bool := v.state == .opening || v.state == .closing

/-- What a counted switch change does to a valve, with the switches as they stand after it (R47, R49, R50, R52).
The end named is the one whose switch has counted. Both switches MADE is a FAULT in every state but FAULT, as R49 says
(log entry 33). -/
def Valve.counted (v : Valve) (counting : Toward) (openSw shutSw : SwitchState) : Valve × Option Report :=
  let both := openSw == .made && shutSw == .made
  match v.state with
  | .opening =>
    if both then (Valve.faulted .bothSwitches, some .fault)
    else if targetStands .toOpen openSw shutSw then (Valve.atEnd .toOpen, some .arrivedOpen)
    else (v, none)
  | .closing =>
    if both then (Valve.faulted .bothSwitches, some .fault)
    else if targetStands .toShut openSw shutSw then (Valve.atEnd .toShut, some .arrivedShut)
    else (v, none)
  | .opened =>
    if both then (Valve.faulted .bothSwitches, some .fault)
    else if counting = .toOpen ∧ openSw = .broken then (Valve.faulted .unbidden, some .fault)
    else (v, none)
  | .shut =>
    if both then (Valve.faulted .bothSwitches, some .fault)
    else if counting = .toShut ∧ shutSw = .broken then (Valve.faulted .unbidden, some .fault)
    else (v, none)
  | .fault _ =>
    if targetStands .toOpen openSw shutSw then (Valve.atEnd .toOpen, some .recoveredOpen)
    else if targetStands .toShut openSw shutSw then (Valve.atEnd .toShut, some .recoveredShut)
    else (v, none)

/-- A valve read from the levels on its two switch inputs (R55). -/
def readValve (openRaw shutRaw : Level) : Valve :=
  match openRaw, shutRaw with
  | .closed, .opened => Valve.atEnd .toOpen
  | .opened, .closed => Valve.atEnd .toShut
  | _, _ => Valve.faulted .position

/-- The start reading of one valve position: an unfitted valve is SHUT with its drives off (R43, R55). -/
def State.readValveAt (s : State) (v : ValveId) : Valve :=
  if (s.valveCfg v).fitted then readValve (s.contact (.openSwitch v)).raw (s.contact (.shutSwitch v)).raw else shutValve

/-- The start reading of every valve (R55). -/
def State.readValves (s : State) : State :=
  forEach valveIds (fun v t => t.setValve v (t.readValveAt v)) s

end Sys2Proof.Machine
end

