-- ==== Sys2Proof/Machine/Orders.lean ====
section
/-! DEFINITION. The order book (chapter 4): numbers, ends, and fill orders with their queue. Send orders stand in
Supply.lean beside the changeover slot they compete for. -/

namespace Sys2Proof.Machine

/-! ## Numbers (R57) -/

/-- The number after a number: 9,999 is followed by 1 (R57). -/
def nextNumber (n : Nat) : Nat := if 9999 ≤ n then 1 else n + 1

/-- The first number after n that no record of the book holds, looked for in a given number of tries (R57). -/
def freeNumber (held : List Nat) : Nat → Nat → Nat
  | 0, n => nextNumber n
  | k + 1, n => if held.contains (nextNumber n) then freeNumber held k (nextNumber n) else nextNumber n

/-- The number an accepted order is issued: found within the first 17 tried, since the book holds at most 16 (R57). -/
def OrderBook.issue (b : OrderBook) : Nat := freeNumber (b.orders.map (·.number)) Config.bookCapacity b.lastIssued

/-! ## Ends (R63) -/

/-- Entry of an order into ENDED (R63), but for the queue rule: the end reason and end stock are recorded, the
limit timer stops, and ORDER_ENDED is raised. The start stock stays as it was, so absent for an order that never started
(log entry 40). An ENDED order takes no further event. -/
def State.endOrder (n : Nat) (r : EndReason) (s : State) : State :=
  match s.order n with
  | none => s
  | some o =>
    if o.isEnded then s
    else (s.putOrder { o with state := .ended r, endStock := (s.holder o.holder).stock, limitTimer := none }).raise .orderEnded n

/-- Ends every order that a test picks, before any queue rule is applied (R63). -/
def State.endWhere (p : Order → Bool) (r : EndReason) (s : State) : State :=
  (s.book.orders.filter p).foldl (fun t o => t.endOrder o.number r) s

/-! ## Fill orders (R64 to R69) -/

/-- The start check of a FILL that fails first, as its end reason (R64). -/
def State.fillRefusal (s : State) (h : HolderId) : Option EndReason :=
  let x := s.holder h
  if x.service = .out then some .notReady
  else if x.stock.isNone then some .gauge
  else if x.limit = .highStop then some .notReady
  else
    match (s.valve (inletOf h)).state with
    | .fault _ => some .notReady
    | _ => if s.trip = .inactive then none else some .notReady

/-- A FILL enters FILLING (R66): its limit timer starts if it has one, and the target is tested at once. -/
def State.enterFilling (o : Order) (s : State) : State :=
  match o.kind with
  | .send _ => s
  | .fill target limit =>
    let s1 := s.putOrder { o with state := .filling, limitTimer := limit.map fun _ => s.now }
    match (s.holder o.holder).stock with
    | none => s1
    | some v => if target ≤ v then (s1.command (inletOf o.holder) .toShut).endOrder o.number .target else s1

/-- A FILL that the queue rule no longer holds back starts (R64, R65). -/
def State.startFill (o : Order) (s : State) : State :=
  match o.kind, s.fillRefusal o.holder with
  | .send _, _ => s
  | .fill _ _, some r => s.endOrder o.number r
  | .fill target _, none =>
    let o1 := { o with startStock := (s.holder o.holder).stock }
    if target ≤ (s.holder o.holder).stock.getD 0 then (s.putOrder o1).endOrder o.number .target
    else
      let o2 := { o1 with state := .opening }
      let s1 := (s.putOrder o2).command (inletOf o.holder) .toOpen
      if (s1.valve (inletOf o.holder)).state = .opened then s1.enterFilling o2 else s1

/-- The oldest FILL of a holder that is not ENDED: the only one the queue rule may start (R61). -/
def State.oldestFill (s : State) (h : HolderId) : Option Order :=
  s.book.orders.find? fun o => o.isFill && o.holder == h && !o.isEnded

/-- The queue rule of a holder's FILL queue (R61, R62): orders start in turn until one stays running. -/
def State.fillQueue : Nat → HolderId → State → State
  | 0, _, s => s
  | k + 1, h, s =>
    match s.oldestFill h with
    | none => s
    | some o => if o.state = .queued then State.fillQueue k h (s.startFill o) else s

/-- The queue rule applied to a holder's FILL queue; each pass takes one order out of QUEUED. -/
def State.fillRule (h : HolderId) (s : State) : State := s.fillQueue s.book.orders.length h

/-- A FILL that is running ends: the inlet is commanded SHUT, the order ends, and the queue rule follows (R67, R68). -/
def State.stopFill (o : Order) (r : EndReason) (s : State) : State :=
  ((s.command (inletOf o.holder) .toShut).endOrder o.number r).fillRule o.holder

/-- What the order book does with a stock change of a holder (R67): the first case that applies. -/
def State.fillStockTest (h : HolderId) (entersHighStop : Bool) (s : State) : State :=
  match s.runningFill h with
  | none => s
  | some o =>
    match (s.holder h).stock, o.kind with
    | none, _ => s.stopFill o .gauge
    | some v, .fill target _ =>
      if entersHighStop then s.stopFill o .highStop
      else if o.state = .filling ∧ target ≤ v then s.stopFill o .target
      else s
    | some _, .send _ => s

/-- A FILL in OPENING on a holder (R66). -/
def State.openingFill (s : State) (h : HolderId) : Option Order :=
  s.book.orders.find? fun o => o.isFill && o.holder == h && o.state == .opening

/-- The yard trip becomes active (R78): every inlet is commanded SHUT, and every FILL that is not ENDED ends TRIPPED
before any queue rule. Every FILL of the book is then ended, so none starts. TRIP_ACTIVE is judged in Flags.lean. -/
def State.tripActivated (s : State) : State :=
  forEach holderIds State.fillRule
    ((forEach holderIds (fun h t => t.command (inletOf h) .toShut) s).endWhere (fun o => o.isFill && !o.isEnded) .tripped)

end Sys2Proof.Machine
end

