-- ==== Sys2Proof/Machine/Flags.lean ====
section
/-! DEFINITION. The alert unit (chapter 9): what each condition says, how the instances of one step join and
leave the list, and the attention output. Every condition of R162 is judged here from the records of its owner,
so an instance holds exactly while its owner's rule says so. Clearings are reported at each event inside a step that can
come before a new arising in it (log entry 10). -/

namespace Sys2Proof.Machine

/-! ## What each condition says -/

/-- SUPPLY_LIMITED: the ceiling is present and below the lesser of the desired and the maximum setpoint (R116). -/
def State.supplyLimited (s : State) (g : GovernorId) : Bool :=
  match (s.governor g).ceiling with
  | some c => decide (c < min (s.governor g).desired (s.governorCfg g).maxSetpoint)
  | none => false

/-- CONDITIONS_ASSUMED: the barometer is assumed, or some holder IN use has its flag set (R33). -/
def State.conditionsAssumed (s : State) : Bool :=
  s.conditions.barometerAssumed || holderIds.any fun h => (s.holder h).service == .inUse && (s.holder h).assumed

/-- POINT_FAULT: the station is a POINT whose last answer is present and reports its sensor FAULT (R139). -/
def Station.pointFault (st : Station) : Bool :=
  match st.cfg.kind, st.answer with
  | .point _ _, some (.point _ good) => !good
  | _, _ => false

/-- Inserts a number into a rising list. -/
def insertNat (n : Nat) : List Nat → List Nat
  | [] => [n]
  | m :: ms => if n ≤ m then n :: m :: ms else m :: insertNat n ms

/-- The enrolled addresses, ascending (R166). -/
def State.addresses (s : State) : List Nat :=
  (s.line.roster.map (·.cfg.address)).foldr insertNat []

/-- The items for which a condition of one kind holds, ascending; an event kind has none. -/
def State.holding (s : State) : CauseKind → List Nat
  | .tripActive => if s.trip = .active then [0] else []
  | .clockUnset => if s.clock.isSet then [] else [0]
  | .unfed => (governorIds.filter fun g => (s.governor g).status == .unfed).map itemNo
  | .supplyLimited => (governorIds.filter s.supplyLimited).map itemNo
  | .governorLocal => (governorIds.filter fun g => (s.governor g).stationMode == some .localMode).map itemNo
  | .notFollowing => (governorIds.filter fun g => (s.governor g).notFollowing == 3).map itemNo
  | .lowStop => (holderIds.filter fun h => (s.holder h).limit == .lowStop).map itemNo
  | .lowWarn => (holderIds.filter fun h => (s.holder h).limit == .lowWarn).map itemNo
  | .highWarn => (holderIds.filter fun h => (s.holder h).limit == .highWarn).map itemNo
  | .highStop => (holderIds.filter fun h => (s.holder h).limit == .highStop).map itemNo
  | .valveFault =>
    (valveIds.filter fun v => (s.valveCfg v).fitted &&
      match (s.valve v).state with
      | .fault _ => true
      | _ => false).map itemNo
  | .gaugeUnset => (holderIds.filter fun h => (s.holder h).status == .unset).map itemNo
  | .gaugeDoubtful => (holderIds.filter fun h => (s.holder h).status == .doubtful).map itemNo
  | .gaugeSlipped => (holderIds.filter fun h => (s.holder h).status == .slipped).map itemNo
  | .conditionsAssumed => if s.conditionsAssumed then [0] else []
  | .stationLost => s.addresses.filter fun a => (s.station a).any (·.link == .lost)
  | .pointFault => s.addresses.filter fun a => (s.station a).any (·.pointFault)
  | .cvAssumed => (districtIds.filter fun d => (s.account d).today.cvAssumed).map itemNo
  | .restarted | .storeFailed | .storeInvalid | .changeoverDone | .changeoverFailed | .orderEnded
  | .cycleOverrun | .meterJump | .unaccountedHigh | .balanceIncomplete => []

/-- Every condition instance that holds, by kind and then by item. -/
def State.conditionsHolding (s : State) : List Cause :=
  causeKinds.flatMap fun k => (s.holding k).map (Cause.mk k)

/-! ## Joining and leaving the list -/

/-- The order of R164 among instances that join at one event: by kind, then by item. -/
def Cause.before (c d : Cause) : Bool :=
  c.kind.index < d.kind.index || (c.kind.index == d.kind.index && c.item < d.item)

/-- Inserts an instance by that order, after its equals. -/
def insertPending (p : Pending) : List Pending → List Pending
  | [] => [p]
  | q :: qs => if p.cause.before q.cause then p :: q :: qs else q :: insertPending p qs

/-- Orders the instances that join at one event. -/
def orderJoining (ps : List Pending) : List Pending := ps.foldl (fun acc p => insertPending p acc) []

/-- A condition instance that arises now (R165). -/
def State.arising (s : State) (c : Cause) : Pending := ⟨c, false, 0, s.clock.minute, s.clock.minute⟩

/-- The owners' reports of clearing (R165): a condition that has stopped holding holds no more and leaves the list,
acknowledged or not. Taken inside a step too, so that one that clears and arises again joins the end as a fresh instance. -/
def State.reportClearings (s : State) : State :=
  let now := s.conditionsHolding
  s.setAlerts
    { s.alerts with
      list := s.alerts.list.filter fun p => p.cause.kind.isEvent || now.contains p.cause
      holds := s.alerts.holds.filter now.contains }

/-- The owners' reports at the end of a step (R165): the clearings, then a condition that began to hold joins the list if
its kind is enabled, and the events of the step join with it in the order of R164. -/
def State.report (s : State) : State :=
  let now := s.conditionsHolding
  let t := s.reportClearings
  let arisen := (now.filter fun c => !t.alerts.holds.contains c && s.enabled c.kind).map s.arising
  s.setAlerts { t.alerts with list := t.alerts.list ++ orderJoining (s.alerts.fresh ++ arisen), holds := now, fresh := [] }

/-- The events raised so far join the list now. -/
def State.joinEvents (s : State) : State :=
  s.setAlerts { s.alerts with list := s.alerts.list ++ orderJoining s.alerts.fresh, fresh := [] }

/-! ## The attention output (R169) -/

/-- Whether a pending instance drives the attention output: unacknowledged, in a group whose level is nonzero and
not below the threshold. -/
def State.drivesAttention (s : State) (p : Pending) : Bool :=
  let level := s.settings.levels[p.cause.kind.group]
  !p.acknowledged && level != 0 && s.yardCfg.threshold ≤ level

/-- The attention output as R169 has it: never asserted while the module is down. -/
def State.attentionDue (s : State) : Bool := s.power == .up && s.alerts.list.any s.drivesAttention

/-- Re-judges the attention output. -/
def State.judgeAttention (s : State) : State := s.setAlerts { s.alerts with attention := s.attentionDue }

/-- What follows every step of a running module: the owners' reports, then the attention output. -/
def State.settle (s : State) : State := s.report.judgeAttention

end Sys2Proof.Machine
end

