-- ==== Sys2Proof/Machine/Stock.lean ====
section
/-! DEFINITION. The stock unit's arithmetic (chapter 2) and the tests a holder's height is put to (1.4, 1.6).
Everything here is exact; each rounding stands where its rule puts it. -/

namespace Sys2Proof.Machine

/-- A value replaced by the nearer end of a range when it lies outside it (00_scope.md, Arithmetic). -/
def clampNat (lo hi n : Nat) : Nat := max lo (min hi n)

/-- The same for signed values. -/
def clampInt (lo hi n : Int) : Int := max lo (min hi n)

/-- A quotient rounded half up: a remainder of half the divisor or more rounds up (R27). -/
def halfUp (num den : Nat) : Nat := (2 * num + den) / (2 * den)

/-! ## Geometry (R1, R24, R25) -/

/-- Lifts 1 to 4. -/
def liftIds : List (Fin 4) := [0, 1, 2, 3]

/-- The lifts fitted: 1 to L. -/
def HolderSettings.fittedLifts (c : HolderSettings) : List (Fin 4) := liftIds.filter fun i => i.val < c.lifts

/-- The total stroke T: the sum of S1 to SL (R1). -/
def HolderSettings.totalStroke (c : HolderSettings) : Nat := (c.fittedLifts.map fun i => c.stroke[i]).sum

/-- The boundary B_i at which a lift begins to rise (2.1). -/
def HolderSettings.boundary (c : HolderSettings) (i : Fin 4) : Nat :=
  ((liftIds.filter fun j => j.val < i.val).map fun j => c.stroke[j]).sum

/-- The rise of a lift at a height: the greater of 0 and h − B_i, or S_i if that is less (R24). -/
def HolderSettings.rise (c : HolderSettings) (height : Nat) (i : Fin 4) : Nat :=
  min c.stroke[i] (height - c.boundary i)

/-- The geometric volume in litres (R24). -/
def HolderSettings.volume (c : HolderSettings) (height : Nat) : Nat :=
  (c.fittedLifts.map fun i => c.area[i] * c.rise height i).sum

/-- The floating lift count (R25). -/
def HolderSettings.floatingAt (c : HolderSettings) (height : Nat) : Nat :=
  (c.fittedLifts.filter fun i => 0 < c.rise height i).length

/-- The holder pressure with n lifts floating: P(n), or 0 when n is 0 (R25). -/
def HolderSettings.pressureAt (c : HolderSettings) (n : Nat) : Nat :=
  match n with
  | 0 => 0
  | k + 1 => c.pressure.toList.getD k 0

/-- The mark heights: the boundaries of lifts 2 to L (R1). -/
def HolderSettings.marks (c : HolderSettings) : List Nat :=
  (c.fittedLifts.filter fun i => 0 < i.val).map c.boundary

/-- The distance between two heights. -/
def distance (a b : Nat) : Nat := (a - b) + (b - a)

/-- The mark nearest a height; of two equally near, the lower (R10). None where there is no mark. -/
def nearestMark (height : Nat) : List Nat → Option Nat
  | [] => none
  | m :: ms =>
    match nearestMark height ms with
    | none => some m
    | some m' => if distance height m ≤ distance height m' then some m else some m'

/-! ## Vapour pressure and the standard correction (R26 to R28) -/

/-- The vapour table: P_w at −300, −200, …, +500 tenths of a degree (R26). -/
def vapourTable : List Nat := [51, 125, 286, 611, 1228, 2339, 4246, 7384, 12350]

/-- The vapour pressure at a temperature within −300 to +500 (R26): the quotient is truncated before it is added. -/
def vapour (t : Int) : Nat :=
  let x := (t + 300).toNat
  let lo := vapourTable.getD (x / 100) 0
  let hi := vapourTable.getD (x / 100 + 1) lo
  lo + (hi - lo) * (x % 100) / 100

/-- A temperature clamped to −300 to +500 (R28, R32). -/
def clampTemp (t : Int) : Int := clampInt (-300) 500 t

/-- A barometric pressure clamped to 85,000 to 108,000 (R28, R31). -/
def clampBarometer (p : Nat) : Nat := clampNat 85000 108000 p

/-- The standard correction (R27), its inputs clamped (R28): litres, gauge pressure, temperature, barometer. -/
def standardVolume (litres gauge : Nat) (temp : Int) (barometer : Nat) : Nat :=
  let t := clampTemp temp
  let p := clampBarometer barometer + clampNat 0 10000 gauge - vapour t
  halfUp (litres * p * 2882) (101325 * (2732 + t).toNat * 1000)

/-- A holder's stock by its height and the conditions in use, whatever its gauge status (R29). -/
def HolderSettings.stockAt (c : HolderSettings) (height : Nat) (temp : Int) (barometer : Nat) : Nat :=
  standardVolume (c.volume height) (c.pressureAt (c.floatingAt height)) temp barometer

/-- Stock is present exactly when the gauge status is GOOD or DOUBTFUL (R13). -/
def GaugeStatus.knowsStock : GaugeStatus → Bool
  | .good | .doubtful => true
  | .unset | .slipped => false

/-! ## Calorific value (R38 to R40) -/

/-- A CV clamped to the floor and ceiling in force (R38). -/
def YardSettings.clampCv (y : YardSettings) (cv : Nat) : Nat := clampNat y.cvFloor y.cvCeiling cv

/-- The declared CV, clamped (R38, R40, R150). -/
def YardSettings.declared (y : YardSettings) : Nat := y.clampCv y.declaredCv

/-- The make CV in use: the last good MAKE answer's, or the declared CV, clamped at the use (R38). -/
def State.makeCv (s : State) : Nat := s.yardCfg.clampCv (s.conditions.lastMakeCv.getD s.yardCfg.declaredCv)

/-- The CV of two volumes mixed, rounded half up (R39); with no gas or no CV before, the make CV. -/
def mixedCv (oldVolume : Nat) (oldCv : Option Nat) (rise makeCv : Nat) : Nat :=
  match oldVolume, oldCv with
  | 0, _ => makeCv
  | _, none => makeCv
  | v, some c => halfUp (v * c + rise * makeCv) (v + rise)

/-! ## Limit conditions (R15) -/

/-- The limit condition from the present one and the height, the first case that applies (R15). -/
def HolderSettings.limitAt (c : HolderSettings) (present : LimitCondition) (h : Nat) : LimitCondition :=
  if h ≤ c.lowStop then .lowStop
  else if present = .lowStop ∧ h < c.lowStop + c.hysteresis then .lowStop
  else if c.highStop ≤ h then .highStop
  else if present = .highStop ∧ c.highStop < h + c.hysteresis then .highStop
  else if h ≤ c.lowWarn then .lowWarn
  else if c.highWarn ≤ h then .highWarn
  else .normal

/-- Entry into LOW_WARN from above: the crossing told to the supply unit (R19). -/
def crossesLowWarn (old new : LimitCondition) : Bool :=
  new == .lowWarn && (old == .normal || old == .highWarn || old == .highStop)

/-! ## One recomputation of a holder (R34) -/

/-- The mean CV after a recomputation: first CV (R40), mixing with the inlet OPEN (R39), or kept. -/
def meanCvAfter (declared makeCv : Nat) (mixes : Bool) (oldStock newStock cv : Option Nat) : Option Nat :=
  match oldStock, newStock with
  | none, some _ => some (cv.getD declared)
  | some v, some w => if mixes && v < w then some (mixedCv v cv (w - v) makeCv) else cv
  | _, none => cv

/-- A holder recomputed from its height, its settings and the conditions in use (R34). mixes says whether the
inlet is OPEN and mixing applies; evaluates says whether the limit condition is evaluated if stock is present. -/
def Holder.recomputed (x : Holder) (c : HolderSettings) (barometer declared makeCv : Nat) (mixes evaluates : Bool) : Holder :=
  let stock := if x.status.knowsStock then some (c.stockAt x.height x.gasTemp barometer) else none
  let n := c.floatingAt x.height
  { x with
    stock := stock
    floating := n
    pressure := c.pressureAt n
    meanCv := meanCvAfter declared makeCv mixes x.stock stock x.meanCv
    limit := if evaluates && stock.isSome then c.limitAt x.limit x.height else x.limit }

/-- Whether a recomputation is handed on: stock, presence, n, pressure or limit condition differ (R35). -/
def Holder.handsOn (old new : Holder) : Bool :=
  old.stock != new.stock || old.floating != new.floating || old.pressure != new.pressure || old.limit != new.limit

end Sys2Proof.Machine
end

