-- ==== Sys2Proof/Machine/Pressure.lean ====
section
/-! DEFINITION. The pressure loop (chapter 6), with the supply status and ceiling it is handed (R86, R87):
district evaluation, combination, base, desired and commanded setpoints. The trim step and what the supply unit
makes of a changed desired setpoint stand in Supply.lean. -/

namespace Sys2Proof.Machine

/-! ## Supply status and ceiling (R86, R87) -/

/-- The supply status a lead gives (R86). -/
def State.statusOf (s : State) (g : GovernorId) : SupplyStatus :=
  match (s.governor g).lead with
  | none => .unfed
  | some l => if (s.holder l.holder).stock.isSome then .fed else .blind

/-- The supply ceiling: present exactly while FED, the lead's holder pressure less the main loss (R87). -/
def State.ceilingOf (s : State) (g : GovernorId) : Option Int :=
  match (s.governor g).lead with
  | none => none
  | some l =>
    if (s.holder l.holder).stock.isSome then some ((s.holder l.holder).pressure - (s.governorCfg g).mainLoss) else none

/-! ## Base, desired and commanded setpoints (R114, R115) -/

/-- The present hour of the yard clock (R114). -/
def Clock.hour (c : Clock) : Nat := c.minute / 60

/-- The band table entries of a governor in force on the present day (R114). -/
def State.bandTable (s : State) (g : GovernorId) : Vector Nat 24 :=
  match s.yardCfg.week.toList.getD s.clock.dayIndex .a with
  | .a => (s.governorCfg g).bandA
  | .b => (s.governorCfg g).bandB

/-- The base setpoint: the profile named for the present hour by the band table in force (R114). -/
def State.baseOf (s : State) (g : GovernorId) : Nat :=
  s.settings.profiles.toList.getD ((s.bandTable g).toList.getD s.clock.hour 0) 0

/-- The least of the desired setpoint, the maximum and the ceiling if present (R115, step 1). -/
def cappedSetpoint (desired : Int) (ceiling : Option Int) (maxSetpoint : Nat) : Int :=
  match ceiling with
  | some c => min (min desired maxSetpoint) c
  | none => min desired maxSetpoint

/-- The commanded setpoint (R115): that least value, or the minimum setpoint if that is greater. -/
def commandedFor (desired : Int) (ceiling : Option Int) (minSetpoint maxSetpoint : Nat) : Nat :=
  (max (cappedSetpoint desired ceiling maxSetpoint) minSetpoint).toNat

/-- Ceiling short: FED with a ceiling below the desired setpoint (R93). -/
def isShort (ceiling : Option Int) (desired : Int) : Bool :=
  match ceiling with
  | some c => decide (c < desired)
  | none => false

/-- A governor's supply status, ceiling, base, desired and commanded setpoints and ceiling short, found afresh from
its lead, trim, settings and the clock (R86, R87, R114, R115, R93). Ceiling retry clears when ceiling short does (R96).
The conditions that this clears are reported at once (R88, R92, R116, R165). -/
def State.refresh (g : GovernorId) (s : State) : State :=
  let v := s.governor g
  let ceiling := s.ceilingOf g
  let base := s.baseOf g
  let desired : Int := base + v.trim
  let short := isShort ceiling desired
  (s.setGovernor g
    { v with
      status := s.statusOf g
      ceiling := ceiling
      base := base
      desired := desired
      commanded := commandedFor desired ceiling (s.governorCfg g).minSetpoint (s.governorCfg g).maxSetpoint
      short := short
      retry := v.retry && short }).reportClearings

/-! ## Combining (R111 to R113) -/

/-- The combining in use for a BALANCED governor's two districts (R112). -/
def balancedCombining (x y : District) (band : Nat) : Combining :=
  match x.margin, y.margin with
  | some m, some n => if x.blind || y.blind then .secure else if (m - n).natAbs < band then .secure else .economy
  | _, _ => .secure

/-- Two requests combined by SECURE or ECONOMY (R111). -/
def combineTwo (c : Combining) (x y : Request) : Request :=
  match c with
  | .secure =>
    if x = .raise ∨ y = .raise then .raise else if x = .lower ∧ y = .lower then .lower else .hold
  | .economy =>
    if x = .raise ∧ y = .raise then .raise else if x = .lower ∨ y = .lower then .lower else .hold

/-- The combining in use of a governor whose served districts are given (R111, R112). -/
def combiningFor (mode : Mode) (band : Nat) (served : List District) : Combining :=
  match mode, served with
  | .secure, _ => .secure
  | .economy, _ => .economy
  | .balanced, [x, y] => balancedCombining x y band
  | .balanced, _ => .secure

/-- The request of a governor whose served districts are given (R111). -/
def requestFor (c : Combining) (served : List District) : Request :=
  match served with
  | [x] => x.request
  | [x, y] => combineTwo c x.request y.request
  | _ => .hold

/-- A recombination (R113). -/
def State.recombine (g : GovernorId) (s : State) : State :=
  let served := (s.served g).map s.district
  let c := combiningFor (s.governorCfg g).mode (s.governorCfg g).balanceBand served
  s.setGovernor g { s.governor g with request := requestFor c served, combining := c }

/-! ## District evaluation (R105 to R107) -/

/-- The pressure of a station if it is a usable point of a district (R105). -/
def Station.usablePressure (d : DistrictId) (st : Station) : Option Nat :=
  match st.cfg.kind, st.answer with
  | .point d' _, some (.point p true) => if d' = d ∧ st.link = .active then some (clampNat 0 10000 p) else none
  | _, _ => none

/-- The lowest of a list. -/
def lowest : List Nat → Option Nat
  | [] => none
  | x :: xs =>
    match lowest xs with
    | none => some x
    | some y => some (min x y)

/-- The request a margin gives (R106). -/
def requestOfMargin (m : Int) (band : Nat) : Request :=
  if m < 0 then .raise else if m ≤ band then .hold else .lower

/-- A district's far-end fields from its usable points (R106, R107). -/
def districtFrom (points : List Nat) (fMin band : Nat) : District :=
  match lowest points with
  | none => startDistrict
  | some p => ⟨some p, some (p - fMin), requestOfMargin (p - fMin) band, false⟩

/-- Whether an evaluation changed what the governor combines: request, margin or blind flag (R106). -/
def District.differs (x y : District) : Bool := x.request != y.request || x.margin != y.margin || x.blind != y.blind

/-- An evaluation of a district (R106): the governor that serves it recombines if anything it combines changed. -/
def State.evaluateDistrict (d : DistrictId) (s : State) : State :=
  let old := s.district d
  let new := districtFrom (s.line.roster.filterMap (Station.usablePressure d)) (s.districtCfg d).fMin (s.districtCfg d).band
  let t := s.setDistrict d new
  if old.differs new then t.recombine (s.districtCfg d).governor else t

/-! ## The trim (R118) -/

/-- The trim after an expiry of the adjust timer (R118): the guards, the step and the clamp. -/
def trimAfter (v : Governor) (c : GovernorSettings) (limited : Bool) : Int :=
  let held := v.stationMode = some .localMode
  match v.request with
  | .raise =>
    if ¬ held ∧ v.commanded < c.maxSetpoint ∧ limited = false then clampInt (-c.trimLimit) c.trimLimit (v.trim + c.step) else v.trim
  | .lower =>
    if ¬ held ∧ c.minSetpoint < v.commanded then clampInt (-c.trimLimit) c.trimLimit (v.trim - c.step) else v.trim
  | .hold => v.trim

end Sys2Proof.Machine
end

