-- ==== Sys2Proof/Machine/Supply.lean ====
section
/-! DEFINITION. The supply unit (chapter 5) with the send orders of the order book (4.5): leads, the changeover slot,
triggers, attempts, completions and abandonments. -/

namespace Sys2Proof.Machine

/-! ## Trigger sets -/

/-- Whether a set of triggers holds any. -/
def Triggers.any (t : Triggers) : Bool := t.warn || t.ceiling || t.removal

/-- Two sets of triggers joined. -/
def Triggers.join (t u : Triggers) : Triggers := ⟨t.warn || u.warn, t.ceiling || u.ceiling, t.removal || u.removal⟩

/-- The REMOVAL trigger alone. -/
def removalTrigger : Triggers := ⟨false, false, true⟩

/-! ## Making and losing a lead -/

/-- The governor's LEADING order ends (R73). -/
def State.endLeading (g : GovernorId) (r : EndReason) (s : State) : State :=
  s.endWhere (fun o => o.isSendFor g && o.state == .leading) r

/-- A completion makes a holder the lead and frees the slot (R71, R92): the old lead's valve is commanded SHUT, a
LEADING order ends RELIEVED, and if the lead holder changed CHANGEOVER_DONE is raised, ceiling retry clears and status,
ceiling and ceiling short are judged afresh without a trigger. -/
def State.makeLead (g : GovernorId) (h : HolderId) (o : LeadOrigin) (s : State) : State :=
  let v := s.governor g
  let s1 := s.setGovernor g { v with lead := some ⟨h, o⟩, slot := none }
  match v.lead with
  | none =>
    let s2 := s1.endLeading g .relieved
    ((s2.setGovernor g { s2.governor g with retry := false }).refresh g).raise .changeoverDone (itemNo g)
  | some l =>
    if l.holder = h then s1.endLeading g .relieved
    else
      let s2 := (s1.command (outletOf l.holder g) .toShut).endLeading g .relieved
      ((s2.setGovernor g { s2.governor g with retry := false }).refresh g).raise .changeoverDone (itemNo g)

/-- The lead of a governor is removed (R88, R89): the governor is UNFED, its ceiling absent, ceiling short and retry
clear, and its LEADING order ends with the reason given. The REMOVAL trigger is taken by the caller. -/
def State.removeLead (g : GovernorId) (r : EndReason) (s : State) : State :=
  (((s.setGovernor g { s.governor g with lead := none, retry := false }).refresh g).endLeading g r)

/-! ## Send orders (R70, R71) -/

/-- Whether a start check of a SEND fails (R70). -/
def State.sendRefused (s : State) (h : HolderId) (g : GovernorId) : Bool :=
  let x := s.holder h
  x.service == .out || x.stock.isNone || x.limit == .lowStop ||
    match (s.valve (outletOf h g)).state with
    | .fault _ => true
    | _ => false

/-- An ordered changeover completes (R71): the order's holder becomes the lead, and the order enters LEADING. -/
def State.completeOrdered (g : GovernorId) (o : Order) (s : State) : State :=
  (s.makeLead g o.holder (.order o.number)).putOrder { o with state := .leading }

/-- A SEND that the queue rule no longer holds back starts (R70): it takes the slot and commands its valve OPEN, and
completes at once if the valve is then OPEN. -/
def State.startSend (g : GovernorId) (o : Order) (s : State) : State :=
  if s.sendRefused o.holder g then s.endOrder o.number .notReady
  else
    let o1 := { o with startStock := (s.holder o.holder).stock, state := .changing }
    let s1 := s.putOrder o1
    let s2 := s1.setGovernor g { s1.governor g with slot := some ⟨o.holder, .order o.number⟩ }
    let s3 := s2.command (outletOf o.holder g) .toOpen
    if (s3.valve (outletOf o.holder g)).state = .opened then s3.completeOrdered g o1 else s3

/-- The SEND the queue rule would start for a governor: the oldest QUEUED one, unless the slot is taken or a SEND for
the governor is in CHANGING (R61). -/
def State.nextSend (s : State) (g : GovernorId) : Option Order :=
  if (s.governor g).slot.isSome || s.book.orders.any (fun o => o.isSendFor g && o.state == .changing) then none
  else s.book.orders.find? fun o => o.isSendFor g && o.state == .queued

/-- The queue rule of a governor's SEND queue (R61, R62): orders start in turn until one holds the slot or none is QUEUED. -/
def State.sendQueue : Nat → GovernorId → State → State
  | 0, _, s => s
  | k + 1, g, s =>
    match s.nextSend g with
    | none => s
    | some o => State.sendQueue k g (s.startSend g o)

/-- The queue rule applied to a governor's SEND queue; each pass takes one order out of QUEUED. -/
def State.sendRule (g : GovernorId) (s : State) : State := s.sendQueue s.book.orders.length g

/-! ## Attempts (R94 to R96) -/

/-- Whether a holder passes every candidate test of an attempt (R94). -/
def State.passes (s : State) (g : GovernorId) (ceilingTest : Bool) (h : HolderId) : Bool :=
  let x := s.holder h
  !s.leads h g && x.service == .inUse && x.stock.isSome &&
    (x.limit == .normal || x.limit == .highWarn || x.limit == .highStop) &&
    (s.valveCfg (outletOf h g)).fitted &&
    (match (s.valve (outletOf h g)).state with
      | .fault _ => false
      | _ => true) &&
    (!ceilingTest || decide ((s.governor g).desired ≤ (x.pressure : Int) - (s.governorCfg g).mainLoss))

/-- The candidate of an attempt: the first holder of the standby list that passes (R94). -/
def State.candidate (s : State) (g : GovernorId) (ceilingTest : Bool) : Option HolderId :=
  (s.governorCfg g).standby.find? (s.passes g ceilingTest)

/-- An automatic changeover starts (R95), and completes at once if the valve is then OPEN (R92). -/
def State.startAutomatic (g : GovernorId) (h : HolderId) (s : State) : State :=
  let s1 := s.setGovernor g { s.governor g with slot := some ⟨h, .automatic⟩, retry := false }
  let s2 := s1.command (outletOf h g) .toOpen
  if (s2.valve (outletOf h g)).state = .opened then s2.makeLead g h .automatic else s2

/-- An attempt with no candidate (R96): CHANGEOVER_FAILED is raised, and ceiling retry is set if it was made for CEILING. -/
def State.attemptFails (g : GovernorId) (forCeiling : Bool) (s : State) : State :=
  (s.setGovernor g { s.governor g with retry := (s.governor g).retry || forCeiling }).raise .changeoverFailed (itemNo g)

/-- An attempt for the triggers given, made together (R93, R94): the ceiling test is dropped for REMOVAL. -/
def State.attempt (g : GovernorId) (t : Triggers) (s : State) : State :=
  match s.candidate g (!t.removal) with
  | some h => s.startAutomatic g h
  | none => s.attemptFails g t.ceiling

/-! ## The slot freed (R91, R99) -/

/-- The deferred kinds whose condition in the table of R93 holds now (R99). -/
def State.counting (s : State) (g : GovernorId) (t : Triggers) : Triggers :=
  let leadInLowWarn :=
    match (s.governor g).lead with
    | some l => (s.holder l.holder).limit == .lowWarn
    | none => false
  ⟨t.warn && leadInLowWarn, t.ceiling && (s.governor g).short, t.removal && (s.governor g).status == .unfed⟩

/-- The deferred triggers are taken together and emptied (R99): one attempt if any counts and changeovers are ON. -/
def State.takeDeferred (g : GovernorId) (s : State) : State :=
  let t := s.counting g (s.governor g).deferred
  let s1 := s.setGovernor g { s.governor g with deferred := noTriggers }
  if (s.governorCfg g).autoChangeover && t.any then s1.attempt g t else s1

/-- What follows when a governor's slot is freed (R91): the queued SEND first, then, if the slot is still free, the
deferred triggers. An attempt may complete at once and free the slot again; the second pass then finds nothing deferred. -/
def State.slotFreedIn : Nat → GovernorId → State → State
  | 0, _, s => s
  | k + 1, g, s =>
    let s1 := s.sendRule g
    if (s1.governor g).slot.isSome then s1 else State.slotFreedIn k g (s1.takeDeferred g)

/-- The slot of a governor has been freed (R91). -/
def State.slotFreed (g : GovernorId) (s : State) : State := s.slotFreedIn 2 g

/-! ## Triggers (R93) -/

/-- An attempt that completed at once has freed the slot, and R91 follows. -/
def State.afterAttempt (g : GovernorId) (found : Bool) (s : State) : State :=
  if found && (s.governor g).slot.isNone then s.slotFreed g else s

/-- The triggers of one event for one governor (R93): discarded with changeovers OFF, deferred while the slot is
taken, one attempt for them together otherwise. -/
def State.trigger (g : GovernorId) (t : Triggers) (s : State) : State :=
  if !t.any || !(s.governorCfg g).autoChangeover then s
  else if (s.governor g).slot.isSome then
    s.setGovernor g { s.governor g with deferred := (s.governor g).deferred.join t }
  else (s.attempt g t).afterAttempt g (s.candidate g (!t.removal)).isSome

/-- Status, ceiling and setpoints judged afresh with the lead unchanged (R86, R87, R115), and the triggers that
follow: those given, and CEILING if ceiling short went from clear to set (R93). -/
def State.rejudge (g : GovernorId) (also : Triggers) (s : State) : State :=
  let s1 := s.refresh g
  s1.trigger g { also with ceiling := also.ceiling || (!(s.governor g).short && (s1.governor g).short) }

/-- A silent retry at an expiry of the adjust timer (R96): an attempt with the ceiling test that raises nothing if it fails. -/
def State.retryDue (s : State) (g : GovernorId) : Bool :=
  let v := s.governor g
  v.retry && v.short && (s.governorCfg g).autoChangeover && v.slot.isNone

/-- The silent retry, if it is due (R96). -/
def State.silentRetry (g : GovernorId) (s : State) : State :=
  if s.retryDue g then
    match s.candidate g true with
    | some h => (s.startAutomatic g h).afterAttempt g true
    | none => s
  else s

/-- The trim step of an expiry of the adjust timer (R118): a trim that moved recomputes the setpoints and tells the supply
unit. With the lead holder unchanged at the expiry a CEILING trigger may follow; otherwise ceiling short is judged afresh
without one (R93). -/
def State.trimStep (g : GovernorId) (leadKept : Bool) (s : State) : State :=
  let v := s.governor g
  let t := trimAfter v (s.governorCfg g) (s.supplyLimited g)
  let moved := s.setGovernor g { v with trim := t }
  if t = v.trim then s else if leadKept then moved.rejudge g noTriggers else moved.refresh g

/-! ## Changeovers that fail (R72, R97) -/

/-- A changeover in flight ends without completion: an ordered one with the order's end reason (R72), an automatic one
abandoned, adding REMOVAL to the deferred triggers of an UNFED governor (R97). raises says whether CHANGEOVER_FAILED is
raised. The slot is free after it, and R91 is left to the caller. -/
def State.endChangeover (g : GovernorId) (c : Changeover) (r : EndReason) (raises : Bool) (s : State) : State :=
  let s1 :=
    match c.made with
    | .order n =>
      let t := s.endOrder n r
      t.setGovernor g { t.governor g with slot := none }
    | .automatic =>
      let v := s.governor g
      let d := if v.status = .unfed then v.deferred.join removalTrigger else v.deferred
      s.setGovernor g { v with slot := none, deferred := d }
  if raises then s1.raise .changeoverFailed (itemNo g) else s1

/-- A changeover fails and the slot it freed is settled (R72, R91, R97). -/
def State.failChangeover (g : GovernorId) (c : Changeover) (r : EndReason) (s : State) : State :=
  (s.endChangeover g c r true).slotFreed g

/-! ## Stock changes (R35, R72, R86 to R88, R97) -/

/-- What the supply unit does for one governor with a stock change of a holder: its lead removed at an entry into
LOW_STOP, judged afresh otherwise; a changeover to the holder failed at that entry or when its stock is absent. -/
def State.supplyTakesStock (h : HolderId) (entersLowStop crossesLowWarn : Bool) (g : GovernorId) (s : State) : State :=
  let s1 :=
    if s.leads h g then
      if entersLowStop then (s.removeLead g .lowStop).trigger g removalTrigger
      else s.rejudge g ⟨crossesLowWarn, false, false⟩
    else s
  match (s1.governor g).slot with
  | none => s1
  | some c =>
    if c.holder = h then
      if entersLowStop then s1.failChangeover g c .lowStop
      else if (s1.holder h).stock.isNone then (s1.command (outletOf h g) .toShut).failChangeover g c .notReady
      else s1
    else s1

end Sys2Proof.Machine
end

