-- ==== Sys2Proof/Machine/Reports.lean ====
section
/-! DEFINITION. What the blocks that may hold a valve's purpose do with a report of the valve unit (R53), and the
counted changes of the end switches and of the trip input that lead to them. -/

namespace Sys2Proof.Machine

/-- The order book and the stock unit take a report on an inlet (R20, R66, R68, R69). -/
def State.inletReport (h : HolderId) (r : Report) (s : State) : State :=
  match r with
  | .arrivedOpen =>
    match s.openingFill h with
    | some o => (s.enterFilling o).fillRule h
    | none => s.command (inletOf h) .toShut
  | .recoveredOpen =>
    if (s.openingFill h).isNone ∨ (s.holder h).limit = .highStop ∨ (s.holder h).service = .out then
      s.command (inletOf h) .toShut
    else s
  | .fault =>
    match s.runningFill h with
    | some o => (s.endOrder o.number .valveFault).fillRule h
    | none => s
  | .arrivedShut | .recoveredShut => s

/-- A SEND in CHANGING for a holder and governor pair (R71). -/
def State.changingSend (s : State) (h : HolderId) (g : GovernorId) : Option Order :=
  s.book.orders.find? fun o => o.isSendFor g && o.holder == h && o.state == .changing

/-- The changeover of a governor to a holder completes on ARRIVED OPEN (R71, R92), if one is in flight. -/
def State.completeArrival (h : HolderId) (g : GovernorId) (s : State) : State :=
  match s.changingSend h g with
  | some o => (s.completeOrdered g o).slotFreed g
  | none =>
    if (s.governor g).slot = some ⟨h, .automatic⟩ then (s.makeLead g h .automatic).slotFreed g else s

/-- An outlet that became OPEN with no lead and no changeover behind it is commanded SHUT (R90). -/
def State.shutStrayOutlet (h : HolderId) (g : GovernorId) (s : State) : State :=
  if s.leads h g || s.changingTo h g then s else s.command (outletOf h g) .toShut

/-- A FAULT report of an outlet: a changeover on it fails (R72, R97), and a lead on it is removed (R89). -/
def State.outletFault (h : HolderId) (g : GovernorId) (s : State) : State :=
  let s1 :=
    match (s.governor g).slot with
    | some c => if c.holder = h then s.failChangeover g c .valveFault else s
    | none => s
  if s1.leads h g then (s1.removeLead g .valveFault).trigger g removalTrigger else s1

/-- The order book, the supply unit and the stock unit take a report on an outlet (R20, R71, R72, R89, R90, R92, R97). -/
def State.outletReport (h : HolderId) (g : GovernorId) (r : Report) (s : State) : State :=
  match r with
  | .arrivedOpen => (s.completeArrival h g).shutStrayOutlet h g
  | .recoveredOpen =>
    let s1 := s.shutStrayOutlet h g
    if (s1.holder h).limit = .lowStop then s1.command (outletOf h g) .toShut else s1
  | .fault => s.outletFault h g
  | .arrivedShut | .recoveredShut => s

/-- A report goes to the blocks that may hold the valve's purpose (R53). -/
def State.takeReport (v : ValveId) (r : Report) (s : State) : State :=
  match roleOf v with
  | .inlet h => s.inletReport h r
  | .outlet h g => s.outletReport h g r

/-- A valve enters FAULT and is reported (R48, R53). -/
def State.faultValve (v : ValveId) (r : FaultReason) (s : State) : State :=
  (s.setValve v (Valve.faulted r)).takeReport v .fault

/-- The valve unit acts on a counted change of an end switch, whose debounced state already stands (R47 to R52).
An unfitted valve's switches are debounced and nothing is done with them (R43). -/
def State.switchCounted (v : ValveId) (counting : Toward) (s : State) : State :=
  if (s.valveCfg v).fitted then
    match (s.valve v).counted counting (s.openSwitch v) (s.shutSwitch v) with
    | (x, none) => s.setValve v x
    | (x, some r) => (s.setValve v x).takeReport v r
  else s

end Sys2Proof.Machine
end

