-- ==== Sys2Proof/Machine/Gauges.lean ====
section
/-! DEFINITION. The gauge unit and the stock unit's events (chapters 1 and 2): encoder steps, contacts, recomputation,
entries into limit conditions, and taking a holder out of service. -/

namespace Sys2Proof.Machine

/-! ## Recomputation and what it hands on (R34, R35) -/

/-- What the stock unit commands at an entry into a limit condition: outlets SHUT at LOW_STOP (R17), the inlet SHUT at
HIGH_STOP (R18). -/
def State.limitCommands (h : HolderId) (old new : LimitCondition) (s : State) : State :=
  if new = old then s
  else
    match new with
    | .lowStop => forEach governorIds (fun g t => t.command (outletOf h g) .toShut) s
    | .highStop => s.command (inletOf h) .toShut
    | .lowWarn | .normal | .highWarn => s

/-- A change of a holder handed on whole to its readers (R14, R35): the entry acts first, then the order book tests
the running FILL, then the supply unit takes the change for each governor. -/
def State.handOn (h : HolderId) (old new : LimitCondition) (s : State) : State :=
  let s1 := s.limitCommands h old new
  let s2 := s1.fillStockTest h (new == .highStop && old != .highStop)
  forEach governorIds (State.supplyTakesStock h (new == .lowStop && old != .lowStop) (crossesLowWarn old new)) s2

/-- The record a recomputation leaves (R34). -/
def State.recomputedHolder (s : State) (h : HolderId) (mixes evaluates : Bool) : Holder :=
  (s.holder h).recomputed (s.holderCfg h) s.conditions.barometer s.yardCfg.declared s.makeCv
    (mixes && (s.valve (inletOf h)).state == .opened) evaluates

/-- A recomputation of a holder (R34), handed on if it changed anything (R35). -/
def State.recompute (evaluates : Bool) (h : HolderId) (s : State) : State :=
  let old := s.holder h
  let new := s.recomputedHolder h true evaluates
  let s1 := s.setHolder h new
  if old.handsOn new then s1.handOn h old.limit new.limit else s1

/-- The gauge unit hands a new height and status to the stock unit as one change (R14). -/
def State.gaugeChange (h : HolderId) (height : Nat) (status : GaugeStatus) (s : State) : State :=
  let x := s.holder h
  if x.height = height ∧ x.status = status then s
  else (s.setHolder h { x with height := height, status := status }).recompute true h

/-! ## The encoder (R6 to R8) -/

/-- The rising neighbour of a phase pair (R6). -/
def risingPair (p : PhasePair) : PhasePair := ⟨!p.b, p.a⟩

/-- The falling neighbour of a phase pair (R6). -/
def fallingPair (p : PhasePair) : PhasePair := ⟨p.b, !p.a⟩

/-- A lost step makes a GOOD status DOUBTFUL (R7, R8). -/
def GaugeStatus.doubted : GaugeStatus → GaugeStatus
  | .good => .doubtful
  | x => x

/-- Count and status after a step from the last pair seen to a new one (R6 to R8). -/
def stepped (total height : Nat) (status : GaugeStatus) (last new : PhasePair) : Nat × GaugeStatus :=
  if new = risingPair last then
    if height < total then (height + 1, status) else (height, status.doubted)
  else if new = fallingPair last then
    if 0 < height then (height - 1, status) else (height, status.doubted)
  else (height, status.doubted)

/-- A change of the phase pair is decoded (R6); the new pair becomes the last pair seen, legal or not. -/
def State.encoderStep (h : HolderId) (p : PhasePair) (s : State) : State :=
  let x := s.holder h
  if p = x.phases then s
  else
    let r := stepped (s.holderCfg h).totalStroke x.height x.status x.phases p
    (s.setHolder h { x with phases := p }).gaugeChange h r.1 r.2

/-! ## Mark and landed contacts (R10, R11) -/

/-- Count and status after a closing of the mark contact (R10). -/
def marked (c : HolderSettings) (height : Nat) (status : GaugeStatus) : Nat × GaugeStatus :=
  match nearestMark height c.marks, status with
  | some m, .good => if distance height m ≤ c.markTolerance then (m, .good) else (height, .slipped)
  | some m, .doubtful => if distance height m ≤ c.markTolerance then (m, .good) else (height, .slipped)
  | _, _ => (height, status)

/-- A closing of the mark contact (R10). -/
def State.markCloses (h : HolderId) (s : State) : State :=
  let r := marked (s.holderCfg h) (s.holder h).height (s.holder h).status
  s.gaugeChange h r.1 r.2

/-- A closing of the landed contact: count 0, status GOOD, from any status (R11). -/
def State.landedCloses (h : HolderId) (s : State) : State := s.gaugeChange h 0 .good

/-! ## Contacts (R9) -/

/-- A raw level change of an input (R9): a change back to the debounced state drops the pending change, and any other
starts one with the new level. -/
def Contact.rawChanged (x : Contact) (l : Level) (now : Nat) : Contact :=
  if x.raw = l then x
  else if x.debounced = some l then { x with raw := l, change := none }
  else { x with raw := l, change := some ⟨l, now⟩ }

/-- What the owner of a contact does when its change has counted (R9): closings of mark and landed contacts,
end-switch counts, and the trip (R10, R11, R47 to R52, R77 to R79). -/
def State.ownerActs (c : ContactId) (l : Level) (s : State) : State :=
  match c, l with
  | .mark h, .closed => s.markCloses h
  | .landed h, .closed => s.landedCloses h
  | .mark _, .opened | .landed _, .opened => s
  | .openSwitch v, _ => s.switchCounted v .toOpen
  | .shutSwitch v, _ => s.switchCounted v .toShut
  | .trip, .opened => s.tripActivated
  | .trip, .closed => s

/-- A pending change counts (R9): the debounced state takes the level, the pending change is dropped, the owner acts. -/
def State.countContact (c : ContactId) (s : State) : State :=
  match (s.contact c).change with
  | none => s
  | some x => (s.setContact c { s.contact c with debounced := some x.level, change := none }).ownerActs c x.level

/-- Whether a contact's pending change has been steady for a debounce time (R9). -/
def State.debounceDue (s : State) (debounce : Nat) (c : ContactId) : Bool :=
  match (s.contact c).change with
  | some x => decide (x.since + debounce ≤ s.now)
  | none => false

/-- An amended debounce time applies at once: every change already steady for it counts (R9). Each count is taken as an
event of its own, in a fixed order (log entries 7 and 34): its triggers make their own attempt (R93), and the conditions
it clears are reported before the next (R165). -/
def State.recountContacts (s : State) : State :=
  forEach contactIds
    (fun c t => if t.debounceDue t.yardCfg.debounce c then (t.countContact c).reportClearings else t) s

/-! ## Service (R21, R80) -/

/-- Orders that a holder's going OUT ends (R21, R80): FILLs on it not ENDED, and SENDs naming it that are QUEUED or CHANGING. -/
def Order.endsTakenOut (o : Order) (h : HolderId) : Bool :=
  o.holder == h && !o.isEnded && (o.isFill || o.state == .queued || o.state == .changing)

/-- A changeover of a governor to a holder taken OUT ends (R21, R72, R97): its valve is commanded SHUT; an automatic one
is abandoned with CHANGEOVER_FAILED, an ordered one's order has ended TAKEN_OUT. The slot is free after it. -/
def State.dropChangeover (h : HolderId) (g : GovernorId) (s : State) : State :=
  match (s.governor g).slot with
  | none => s
  | some c =>
    if c.holder = h then
      (s.command (outletOf h g) .toShut).endChangeover g c .takenOut (c.made == .automatic)
    else s

/-- What a holder's going OUT does, its service already OUT (R21, R80): every order it ends has ended before any queue
rule, then each governor's slot and each queue follow. -/
def State.takeOut (h : HolderId) (s : State) : State :=
  let freed := governorIds.filter (s.changingTo h)
  let s1 := (s.endWhere (fun o => o.endsTakenOut h) .takenOut).command (inletOf h) .toShut
  let s2 := forEach governorIds (State.dropChangeover h) s1
  let s3 := s2.fillRule h
  forEach governorIds (fun g t => if freed.contains g then t.slotFreed g else t.sendRule g) s3

end Sys2Proof.Machine
end

