-- ==== Sys2Proof/Machine/Accounts.lean ====
section
/-! DEFINITION. The accounts unit (chapter 8): meter increments, heat, make-in and the day close. -/

namespace Sys2Proof.Machine

/-! ## Figures (R151, R153) -/

/-- A volume credited to a figure, held at 999,999,999 (R151). -/
def addVolume (v w : Nat) : Nat := min Config.figureLimit (v + w)

/-- Heat in kJ added to an energy figure with the carry of R151; a figure that would pass its limit is held there
with a remainder of 999. -/
def Energy.add (e : Energy) (kj : Nat) : Energy :=
  let mj := e.mj + kj / 1000
  let rem := e.kj + kj % 1000
  let carried : Energy := if 1000 ≤ rem then ⟨mj + 1, rem - 1000⟩ else ⟨mj, rem⟩
  if Config.figureLimit < carried.mj then ⟨Config.figureLimit, 999⟩ else carried

/-- A corrected increment credited at a CV (R149 to R151). -/
def Figures.credit (f : Figures) (volume cv : Nat) (assumed : Bool) : Figures :=
  ⟨addVolume f.volume volume, f.energy.add (volume * cv), f.cvAssumed || assumed⟩

/-- The yard's send-out volume: the sum of the districts' (R153). -/
def State.sendVolume (s : State) : Nat :=
  districtIds.foldl (fun v d => addVolume v (s.account d).today.volume) 0

/-- The yard's send-out energy, summed under the carry of R151 (R153). -/
def State.sendEnergy (s : State) : Energy :=
  districtIds.foldl (fun e d => e.add ((s.account d).today.energy.mj * 1000 + (s.account d).today.energy.kj)) ⟨0, 0⟩

/-! ## Increments (R145 to R147) -/

/-- The increment of a meter answer: index less last index, modulo 1,000,000 (R146). -/
def increment (last index : Nat) : Nat := (index % 1000000 + 1000000 - last % 1000000) % 1000000

/-- What a meter answer comes to (R145 to R147). -/
inductive MeterOutcome where
  | first
  | nothing
  | jump
  | credible (increment : Nat)
  deriving DecidableEq, Repr

/-- The judgement of a meter index against the last index and the maximum credible increment (R145 to R147). -/
def judgeMeter (last : Option Nat) (index maxIncrement : Nat) : MeterOutcome :=
  match last with
  | none => .first
  | some l =>
    if increment l index = 0 then .nothing
    else if increment l index ≤ maxIncrement then .credible (increment l index)
    else .jump

/-- A meter increment corrected to standard volume with the barometer in use (R29, R149). -/
def State.correctedIncrement (s : State) (inc linePressure : Nat) (temp : Int) : Nat :=
  standardVolume (inc * 1000) linePressure temp s.conditions.barometer

/-- The CV for a district's heat and whether it sets the CV-assumed flag: the lead's mean CV, or the declared CV,
clamped (R150). -/
def State.districtCv (s : State) (d : DistrictId) : Nat × Bool :=
  match (s.governor (s.districtCfg d).governor).lead with
  | none => (s.yardCfg.declared, true)
  | some l =>
    match (s.holder l.holder).meanCv with
    | some cv => (cv, false)
    | none => (s.yardCfg.declared, true)

/-- A good answer of a district's meter station (R145 to R150). -/
def State.districtMeter (d : DistrictId) (st : StationSettings) (index linePressure : Nat) (temp : Int) (s : State) : State :=
  let a := s.account d
  let a1 := { a with lastIndex := some (index % 1000000) }
  match judgeMeter a.lastIndex index st.maxIncrement with
  | .first => s.setAccount d a1
  | .nothing => s
  | .jump => (s.setAccount d a1).raise .meterJump st.address
  | .credible inc =>
    let cv := s.districtCv d
    s.setAccount d { a1 with today := a.today.credit (s.correctedIncrement inc linePressure temp) cv.1 cv.2 }

/-- A good MAKE answer at the accounts unit (R145 to R147, R152): its heat at its own CV, clamped. -/
def State.makeMeter (st : StationSettings) (index linePressure : Nat) (temp : Int) (cv : Nat) (s : State) : State :=
  let y := s.yard
  let y1 := { y with lastMakeIndex := some (index % 1000000) }
  match judgeMeter y.lastMakeIndex index st.maxIncrement with
  | .first => s.setYard y1
  | .nothing => s
  | .jump => (s.setYard y1).raise .meterJump st.address
  | .credible inc =>
    let v := s.correctedIncrement inc linePressure temp
    s.setYard { y1 with makeVolume := addVolume y.makeVolume v, makeEnergy := y.makeEnergy.add (v * s.yardCfg.clampCv cv) }

/-! ## Day close (R156 to R158) -/

/-- A district's account closed (R156). -/
def Account.closed (a : Account) : Account := { a with yesterday := a.today, today := zeroFigures }

/-- The closing stock: absent if a holder IN use has its stock absent, else the sum of the stocks present (R157). -/
def State.closingStock (s : State) : Option Nat :=
  if holderIds.any fun h => (s.holder h).service == .inUse && (s.holder h).stock.isNone then none
  else some (holderIds.map fun h => (s.holder h).stock.getD 0).sum

/-- The unaccounted figure: opening stock plus make-in, less send-out and closing stock; absent if either stock is (R157). -/
def unaccountedOf (opening closing : Option Nat) (makeVolume sendVolume : Nat) : Option Int :=
  match opening, closing with
  | some o, some c => some ((o : Int) + makeVolume - sendVolume - c)
  | _, _ => none

/-- The closed day as it is written (R157). -/
def State.closedDayOf (s : State) : ClosedDay where
  dayIndex := s.clock.dayIndex
  opening := s.yard.opening
  makeVolume := s.yard.makeVolume
  makeEnergy := s.yard.makeEnergy
  sendVolume := s.sendVolume
  sendEnergy := s.sendEnergy
  closing := s.closingStock
  unaccounted := unaccountedOf s.yard.opening s.closingStock s.yard.makeVolume s.sendVolume
  incomplete := s.yard.opening.isNone || s.closingStock.isNone

/-- Whether an unaccounted figure exceeds the tolerance in force (R158). -/
def exceedsTolerance (u : Int) (tolerance sendVolume : Nat) : Bool := decide (tolerance * sendVolume < u.natAbs * 1000)

/-- The alerts of a closed day (R158, steps 1 and 2). -/
def State.balanceTests (c : ClosedDay) (s : State) : State :=
  let s1 := if c.incomplete then s.raise .balanceIncomplete 0 else s
  match c.unaccounted with
  | some u => if exceedsTolerance u s.yardCfg.tolerance c.sendVolume then s1.raise .unaccountedHigh 0 else s1
  | none => s1

/-- The day index after a day index: 6 is followed by 0 (R158). -/
def nextDay (d : Nat) : Nat := if 6 ≤ d then 0 else d + 1

/-- A day close (R156 to R158), but for the bases, which the caller recomputes with the day index it leaves. -/
def State.dayClose (s : State) : State :=
  let c := s.closedDayOf
  let s1 := forEach districtIds (fun d t => t.setAccount d (t.account d).closed) s
  let s2 := s1.setYard { s1.yard with closedDay := some c, opening := c.closing, makeVolume := 0, makeEnergy := ⟨0, 0⟩ }
  (s2.balanceTests c).setClock { s2.clock with dayIndex := nextDay s2.clock.dayIndex }

/-! ## The yard clock (R154) -/

/-- Every governor's base recomputed, and the supply unit told of each desired setpoint that changed (R114, R115). -/
def State.rebase (s : State) : State := forEach governorIds (fun g t => t.rejudge g noTriggers) s

/-- The minute after a minute of day (R154). -/
def nextMinute (m : Nat) : Nat := if 1439 ≤ m then 0 else m + 1

/-- An advance of the clock while mains is on (R154). -/
def State.advanceClock (s : State) : State :=
  let m := nextMinute s.clock.minute
  let s1 := s.setClock { s.clock with minute := m, since := s.now }
  let closes := m == s.yardCfg.closeMinute
  let s2 := if closes then s1.dayClose else s1
  if closes || m % 60 == 0 then s2.rebase else s2

/-- An advance on the standby supply (R161): the minute moves and is counted, held at 1,440; nothing closes. -/
def State.advanceStandby (s : State) : State :=
  s.setClock
    { s.clock with minute := nextMinute s.clock.minute, minutesDown := min 1440 (s.clock.minutesDown + 1), since := s.now }

/-- Whether a day close was missed while the module was down (R161): one of the minutes advanced through was the day
close minute. -/
def Clock.closeMissed (c : Clock) (closeMinute : Nat) : Bool := (c.minute + 1440 - closeMinute) % 1440 < c.minutesDown

end Sys2Proof.Machine
end

