-- ==== Sys2Proof/Machine/Bytes.lean ====
section
/-! DEFINITION. Bytes of the two serial lines (chapter 11): numbers and absent markers (R188), the frame (R186),
the check (R187), and what the field line's receiver makes of the bytes of a wait (R132). -/

namespace Sys2Proof.Machine

/-! ## Values (R188) -/

/-- A number in a width of bytes, most significant byte first (R188). -/
def beBytes : Nat → Nat → List Byte
  | 0, _ => []
  | w + 1, n => BitVec.ofNat 8 (n / 256 ^ w) :: beBytes w n

/-- A signed number in two's complement (R188). -/
def beInt (w : Nat) (v : Int) : List Byte := beBytes w (v % (256 ^ w : Nat)).toNat

/-- An optional unsigned number: absent is the all-ones value of the width (R188). -/
def beOpt (w : Nat) : Option Nat → List Byte
  | some n => beBytes w n
  | none => beBytes w (256 ^ w - 1)

/-- An optional signed number: absent is the most negative value of the width (R188). -/
def beOptInt (w : Nat) : Option Int → List Byte
  | some v => beInt w v
  | none => beBytes w (256 ^ w / 2)

/-- The number spelled by bytes, most significant first. -/
def ofBytes (bs : List Byte) : Nat := bs.foldl (fun n b => n * 256 + b.toNat) 0

/-- The two's complement value of a number of a width. -/
def signedOf (w n : Nat) : Int := if 256 ^ w ≤ 2 * n then (n : Int) - (256 ^ w : Nat) else n

/-- A flag: 0 for clear or OFF, 1 for set or ON (R188). -/
def flagByte (b : Bool) : List Byte := beBytes 1 (if b then 1 else 0)

/-- An energy: the MJ in four bytes, then the kJ remainder in two (R188). -/
def energyBytes (e : Energy) : List Byte := beBytes 4 e.mj ++ beBytes 2 e.kj

/-! ## The frame and its check (R186, R187) -/

/-- The start byte (R186). -/
def startByte : Byte := 0xD5#8

/-- One bit of the check's register: polynomial 0x1021, most significant bit first (R187). -/
def crcBit (c : BitVec 16) : BitVec 16 := if c.msb then (c <<< 1) ^^^ 0x1021#16 else c <<< 1

/-- One byte into the check's register (R187). -/
def crcByte (c : BitVec 16) (b : Byte) : BitVec 16 :=
  crcBit (crcBit (crcBit (crcBit (crcBit (crcBit (crcBit (crcBit (c ^^^ (b.setWidth 16 <<< 8)))))))))

/-- The check over bytes, from 0xFFFF (R187). -/
def crc16 (bs : List Byte) : BitVec 16 := bs.foldl crcByte 0xFFFF#16

/-- The two check bytes of a body, high byte first: taken over the length byte and the body (R187). -/
def checkBytes (body : List Byte) : List Byte :=
  beBytes 2 (crc16 (beBytes 1 body.length ++ body)).toNat

/-- The frame that carries a body (R186). -/
def frameOf (body : List Byte) : List Byte := startByte :: beBytes 1 body.length ++ body ++ checkBytes body

/-- What a receiver makes of the bytes of a field-line wait (R132). -/
inductive Reception where
  | incomplete
  | broken
  | body (b : List Byte)
  deriving DecidableEq, Repr

/-- The bytes received while the receiver is open, from the first (R132, R133): a first byte that is not the start
byte, or a length of 0 or above 250, completes a frame whose check fails; bytes after a complete frame are not received. -/
def receive : List Byte → Reception
  | [] => .incomplete
  | b :: rest =>
    if b ≠ startByte then .broken
    else
      match rest with
      | [] => .incomplete
      | l :: more =>
        if l.toNat = 0 ∨ 250 < l.toNat then .broken
        else if more.length < l.toNat + 2 then .incomplete
        else if (more.drop l.toNat).take 2 = checkBytes (more.take l.toNat) then .body (more.take l.toNat)
        else .broken

end Sys2Proof.Machine
end

