-- ==== Sys2Proof/Machine/Operands.lean ====
section
/-! DEFINITION. What requests name: refusal codes (R189), record kinds and keys (R176), the fields of each record with
their widths (R191), which of them an AMEND may write and in what range (R177), and the codes of named values (R188). -/

namespace Sys2Proof.Machine

/-! ## Refusal codes (10.4, R189) -/

/-- The refusal codes. -/
inductive RefusalCode where
  | noSuchRecord
  | unknownKind
  | badValue
  | readOnly
  | bookFull
  | rosterFull
  | notFitted
  | outOfService
  | noChange
  | leadInUse
  | tripped
  | notEnded
  | inUse
  | busy
  deriving DecidableEq, Repr

/-- The number of a refusal code in a reply (R189). -/
def RefusalCode.number : RefusalCode → Nat
  | .noSuchRecord => 1
  | .unknownKind => 2
  | .badValue => 3
  | .readOnly => 4
  | .bookFull => 5
  | .rosterFull => 6
  | .notFitted => 7
  | .outOfService => 8
  | .noChange => 9
  | .leadInUse => 10
  | .tripped => 11
  | .notEnded => 12
  | .inUse => 13
  | .busy => 14

/-! ## Codes of named values (R188, R191) -/

/-- IN 0, OUT 1. -/
def Service.code : Service → Nat
  | .inUse => 0
  | .out => 1

/-- UNSET 0, GOOD 1, DOUBTFUL 2, SLIPPED 3 (R188). -/
def GaugeStatus.code : GaugeStatus → Nat
  | .unset => 0
  | .good => 1
  | .doubtful => 2
  | .slipped => 3

/-- LOW_STOP 0 to HIGH_STOP 4. -/
def LimitCondition.code : LimitCondition → Nat
  | .lowStop => 0
  | .lowWarn => 1
  | .normal => 2
  | .highWarn => 3
  | .highStop => 4

/-- MADE 0, BROKEN 1, UNKNOWN 2. -/
def SwitchState.code : SwitchState → Nat
  | .made => 0
  | .broken => 1
  | .unknown => 2

/-- ACTIVE 0, INACTIVE 1, UNKNOWN 2 (R191). -/
def TripState.code : TripState → Nat
  | .active => 0
  | .inactive => 1
  | .unknown => 2

/-- TRAVEL 0, BOTH_SWITCHES 1, UNBIDDEN 2, POSITION 3. -/
def FaultReason.code : FaultReason → Nat
  | .travel => 0
  | .bothSwitches => 1
  | .unbidden => 2
  | .position => 3

/-- SHUT 0, OPENING 1, OPEN 2, CLOSING 3, FAULT 4. -/
def ValveState.code : ValveState → Nat
  | .shut => 0
  | .opening => 1
  | .opened => 2
  | .closing => 3
  | .fault _ => 4

/-- The fault reason, present exactly while the state is FAULT (R44). -/
def ValveState.reason : ValveState → Option FaultReason
  | .fault r => some r
  | _ => none

/-- OFF 0, OPEN 1, CLOSE 2. -/
def Drive.code : Drive → Nat
  | .off => 0
  | .toOpen => 1
  | .toShut => 2

/-- End reasons in the order of the table of R56, from TARGET 0 (R191). -/
def EndReason.code : EndReason → Nat
  | .target => 0
  | .highStop => 1
  | .timedOut => 2
  | .tripped => 3
  | .gauge => 4
  | .relieved => 5
  | .lowStop => 6
  | .cancelled => 7
  | .valveFault => 8
  | .notReady => 9
  | .takenOut => 10
  | .interrupted => 11

/-- QUEUED 0, OPENING 1, FILLING 2, CHANGING 3, LEADING 4, ENDED 5 (R191). -/
def OrderState.code : OrderState → Nat
  | .queued => 0
  | .opening => 1
  | .filling => 2
  | .changing => 3
  | .leading => 4
  | .ended _ => 5

/-- The end reason of an order, present exactly while it is ENDED (R56). -/
def OrderState.reason : OrderState → Option EndReason
  | .ended r => some r
  | _ => none

/-- FED 0, BLIND 1, UNFED 2. -/
def SupplyStatus.code : SupplyStatus → Nat
  | .fed => 0
  | .blind => 1
  | .unfed => 2

/-- RAISE 0, HOLD 1, LOWER 2. -/
def Request.code : Request → Nat
  | .raise => 0
  | .hold => 1
  | .lower => 2

/-- SECURE 0, ECONOMY 1, BALANCED 2. -/
def Mode.code : Mode → Nat
  | .secure => 0
  | .economy => 1
  | .balanced => 2

/-- SECURE 0, ECONOMY 1. -/
def Combining.code : Combining → Nat
  | .secure => 0
  | .economy => 1

/-- NORMAL 0, LOCAL 1 (R193). -/
def StationMode.code : StationMode → Nat
  | .normal => 0
  | .localMode => 1

/-- A 0, B 1 (R191). -/
def Band.code : Band → Nat
  | .a => 0
  | .b => 1

/-- UNHEARD 0, ACTIVE 1, LOST 2. -/
def Link.code : Link → Nat
  | .unheard => 0
  | .active => 1
  | .lost => 2

/-- IDLE 0, WRITING 1, FAILED 2 (R191). -/
def StoreState.code : StoreState → Nat
  | .idle => 0
  | .writing _ => 1
  | .failed => 2

/-- The item of RESTARTED: COLD 1, WARM 2 (R190). -/
def StartKind.item : StartKind → Nat
  | .cold => 1
  | .warm => 2

/-- The station kinds: YARD 1, MAKE 2, GOVERNOR 3, DMETER 4, POINT 5 (11.3). -/
def StationKind.number : StationKind → Nat
  | .yard => 1
  | .make => 2
  | .governor _ => 3
  | .dmeter _ => 4
  | .point _ _ => 5

/-- The two binding bytes of a station (11.3). -/
def StationKind.binding : StationKind → Nat × Nat
  | .yard | .make => (0, 0)
  | .governor g => (g.val + 1, 0)
  | .dmeter d => (d.val + 1, 0)
  | .point d k => (d.val + 1, k.val + 1)

/-- Whether the kind carries a maximum credible increment (R125). -/
def StationKind.isMeter : StationKind → Bool
  | .make | .dmeter _ => true
  | _ => false

/-! ## Items by number -/

/-- The item with a number from 1 to n, or none. -/
def itemOf (n number : Nat) : Option (Fin n) := if h : 0 < number ∧ number ≤ n then some ⟨number - 1, by omega⟩ else none

/-- A station kind and binding from their bytes, if they suit each other (11.3, R128 check 1). -/
def stationKindOf (kind a b : Nat) : Option StationKind :=
  match kind with
  | 1 => if a = 0 ∧ b = 0 then some .yard else none
  | 2 => if a = 0 ∧ b = 0 then some .make else none
  | 3 => if b = 0 then (itemOf 4 a).map .governor else none
  | 4 => if b = 0 then (itemOf 6 a).map .dmeter else none
  | 5 =>
    match itemOf 6 a, itemOf 3 b with
    | some d, some k => some (.point d k)
    | _, _ => none
  | _ => none

/-! ## Records (R176) -/

/-- A record named by kind and key. -/
inductive RecordRef where
  | holder (h : HolderId)
  | valve (v : ValveId)
  | order (n : Nat)
  | governor (g : GovernorId)
  | district (d : DistrictId)
  | station (address : Nat)
  | profiles
  | yard
  | alertGroup (g : GroupId) (start : Nat)
  deriving DecidableEq, Repr

/-- A key that must name an item. -/
def keyed {n : Nat} (key : Nat) (f : Fin n → RecordRef) : Except RefusalCode RecordRef :=
  match itemOf n key with
  | some i => .ok (f i)
  | none => .error .noSuchRecord

/-- The record a kind number and a key name, or the refusal of R176. The key of an alert group holds the group in its
first byte and the starting place in its second (11.3). A record kind without a key takes the key 0 only (log entry 11). -/
def State.recordOf (s : State) (kind key : Nat) : Except RefusalCode RecordRef :=
  match kind with
  | 1 => keyed key .holder
  | 2 => keyed key .valve
  | 3 => if (s.order key).isSome then .ok (.order key) else .error .noSuchRecord
  | 4 => keyed key .governor
  | 5 => keyed key .district
  | 6 => if (s.station key).isSome then .ok (.station key) else .error .noSuchRecord
  | 7 => if key = 0 then .ok .profiles else .error .noSuchRecord
  | 8 => if key = 0 then .ok .yard else .error .noSuchRecord
  | 9 => keyed (key / 256) fun g => .alertGroup g (max 1 (key % 256))
  | _ => .error .unknownKind

/-! ## Field widths (R191) -/

/-- The widths of a record kind's fields in field order; the station's last answer carries its own length byte. -/
def fieldWidths : Nat → List Nat
  | 1 => [1, 2, 2, 2, 2, 2, 2, 2, 2, 2, 2, 2, 2, 2, 2, 2, 2, 2, 2, 2, 1, 2, 1, 3, 1, 2, 2, 2, 1, 1, 1, 2]
  | 2 => [1, 1, 2, 1, 1, 1, 1, 1, 2]
  | 3 => [2, 1, 1, 1, 3, 2, 1, 1, 2, 3, 3]
  | 4 => [2, 2, 1, 2, 1, 2, 2, 4, 1, 2, 1, 1, 1, 3, 4, 1, 2, 1, 1, 1, 1, 1, 2, 2, 2, 2, 2, 1, 1] ++ List.replicate 48 1
  | 5 => [1, 2, 2, 1, 1, 1, 2, 2, 1, 1, 1, 3, 4, 6, 1, 4, 6, 1]
  | 6 => [1, 1, 2, 3, 1, 1, 1]
  | 7 => List.replicate 16 2
  | 8 => [2, 1, 2, 2, 2, 2, 2, 1, 1, 1, 1, 1, 1, 1, 1, 1, 3, 1, 1, 2, 1, 1, 3, 4, 6, 1, 3, 4, 6, 32, 1]
  | 9 => [1, 1, 2]
  | _ => []

/-- The width of a field of a record kind, if the kind defines the field; fields are numbered from 1 (R188). -/
def fieldWidth (kind field : Nat) : Option Nat := if field = 0 then none else (fieldWidths kind)[field - 1]?

/-- Whether a field's value is signed: the trim is the one writable field that is (R191). -/
def fieldSigned (kind field : Nat) : Bool := kind == 4 && field == 23

/-! ## What an AMEND may write (R177) -/

/-- What an AMEND may do with a field: not defined, not writable, or writable within a range. -/
inductive FieldRule where
  | undefined
  | readOnly
  | range (lo hi : Int)
  deriving DecidableEq, Repr

/-- Holder fields (R1, R4). The gauge height is judged against T with the rules of R178. -/
def holderField (f : Nat) : FieldRule :=
  if f = 1 then .range 1 4
  else if 2 ≤ f ∧ f ≤ 5 then .range 100 4000
  else if 6 ≤ f ∧ f ≤ 9 then .range 1000 12000
  else if 11 ≤ f ∧ f ≤ 14 then .range 300 4000
  else if 15 ≤ f ∧ f ≤ 18 then .range 1 40000
  else if f = 19 then .range 20 1000
  else if f = 20 then .range 20 500
  else if f = 21 then .range 0 1
  else if f = 22 then .range 0 65535
  else .readOnly

/-- Valve fields (R42, R44, R54): fitted for outlets only; the state of a fitted valve takes SHUT only, and that of an
unfitted one is refused by use whatever its value. -/
def valveField (isOutlet fitted : Bool) (f : Nat) : FieldRule :=
  if f = 2 then (if isOutlet then .range 0 1 else .readOnly)
  else if f = 3 then .range 10 600
  else if f = 4 then (if fitted then .range 0 0 else .range 0 255)
  else .readOnly

/-- Governor fields (R83, R108, R109). The standby list is four bytes, judged in R178 but for its coding. -/
def governorField (f : Nat) : FieldRule :=
  if f = 1 then .range 500 5000
  else if f = 2 then .range 500 6000
  else if f = 3 then .range 5 200
  else if f = 4 then .range 0 2000
  else if f = 5 then .range 0 2
  else if f = 6 then .range 0 2000
  else if f = 7 then .range 10 600
  else if f = 8 then .range 0 4294967295
  else if f = 9 then .range 0 1
  else if f = 10 then .range 0 1500
  else if f = 23 then .range (-2000) 2000
  else if 30 ≤ f ∧ f ≤ 77 then .range 0 15
  else .readOnly

/-- District fields (R103). -/
def districtField (f : Nat) : FieldRule :=
  if f = 1 then .range 1 4 else if f = 2 then .range 0 5000 else if f = 3 then .range 50 2000 else .readOnly

/-- Station fields (R125): the maximum credible increment of a meter station. -/
def stationField (isMeter : Bool) (f : Nat) : FieldRule := if f = 4 ∧ isMeter = true then .range 1 200000 else .readOnly

/-- Yard fields (R9, R37, chapter 7, R144, R155, R163). -/
def yardField (f : Nat) : FieldRule :=
  if f = 1 then .range 10 500
  else if f = 2 then .range 2 60
  else if f = 3 then .range 50 1000
  else if 4 ≤ f ∧ f ≤ 6 then .range 12000 24000
  else if f = 7 then .range 0 1439
  else if f = 8 then .range 0 200
  else if 9 ≤ f ∧ f ≤ 15 then .range 0 1
  else if f = 16 then .range 0 7
  else if f = 20 then .range 0 1439
  else if f = 21 then .range 0 1
  else if f = 22 then .range 0 6
  else .readOnly

/-- The cause kinds of a group, in the order of the table of R162. -/
def kindsOf (g : GroupId) : List CauseKind := causeKinds.filter fun k => k.group == g

/-- Alert group fields (R163, R191): a bit of the enables is defined for each kind of the group. -/
def groupField (g : GroupId) (f : Nat) : FieldRule :=
  if f = 1 then .range 0 7 else if f = 2 then .range 0 (2 ^ (kindsOf g).length - 1 : Nat) else .readOnly

/-- The record kind number of a record. -/
def RecordRef.kind : RecordRef → Nat
  | .holder _ => 1
  | .valve _ => 2
  | .order _ => 3
  | .governor _ => 4
  | .district _ => 5
  | .station _ => 6
  | .profiles => 7
  | .yard => 8
  | .alertGroup _ _ => 9

/-- What an AMEND may do with a field of a record (R177). -/
def State.fieldRule (s : State) (r : RecordRef) (f : Nat) : FieldRule :=
  if (fieldWidth r.kind f).isNone then .undefined
  else
    match r with
    | .holder _ => holderField f
    | .valve v =>
      valveField (match roleOf v with
        | .outlet _ _ => true
        | .inlet _ => false) (s.valveCfg v).fitted f
    | .order _ => .readOnly
    | .governor _ => governorField f
    | .district _ => districtField f
    | .station a => stationField ((s.station a).any (·.cfg.kind.isMeter)) f
    | .profiles => .range 0 6000
    | .yard => yardField f
    | .alertGroup g _ => groupField g f

/-! ## The standby list (R83, R191) -/

/-- The four bytes of a standby list as numbers: the count and three places. -/
def standbyPlaces (v : Int) : Nat × List Nat :=
  let n := v.toNat
  (n / 16777216 % 256, [n / 65536 % 256, n / 256 % 256, n % 256])

/-- Whether the coding is one the field defines: unused places hold 0 (R177, R191). -/
def standbyCoded (v : Int) : Bool := ((standbyPlaces v).2.drop (standbyPlaces v).1).all (· == 0)

/-- The holders a standby list names, each place in use read. -/
def standbyOf (v : Int) : List (Option HolderId) :=
  ((standbyPlaces v).2.take (standbyPlaces v).1).map (itemOf 4)

/-- Whether a list repeats nothing. -/
def distinct {α : Type} [DecidableEq α] : List α → Bool
  | [] => true
  | x :: xs => !xs.contains x && distinct xs

/-- The rule of R83 and R178: at most three entries, each H1 to H4, all different. -/
def standbyAllowed (v : Int) : Bool :=
  decide ((standbyPlaces v).1 ≤ 3) && (standbyOf v).all (·.isSome) && distinct (standbyOf v)

end Sys2Proof.Machine
end

