-- ==== Sys2Proof/Machine/FieldLine.lean ====
section
/-! DEFINITION. The field line unit (chapter 7): the cycle, calls, the judgement of answers, misses, and the handing of
answers to their owners. -/

namespace Sys2Proof.Machine

/-! ## Calls (R131, R132, R192) -/

/-- The call to a station as it stands now (R121, R127, R132): a SURVEY-SET carries the commanded setpoint. -/
def State.callFor (s : State) (st : Station) : Call where
  address := st.cfg.address
  kind := st.cfg.kind
  carried :=
    match st.cfg.kind with
    | .governor g => some (s.governor g).commanded
    | _ => none
  discarded := false
  timeout := s.yardCfg.answerTimeout

/-- The body of a call: address, call kind, and the setpoint of a SURVEY-SET (R192). -/
def Call.body (c : Call) : List Byte :=
  match c.carried with
  | some p => beBytes 1 c.address ++ [0x11#8] ++ beBytes 2 p
  | none => beBytes 1 c.address ++ [0x10#8]

/-- The frame a call sends (R186, R192). -/
def Call.frame (c : Call) : List Byte := frameOf c.body

/-- Whether a cycle is running (R131). -/
def LineActivity.running : LineActivity → Bool
  | .idle => false
  | _ => true

/-- A cycle starts (R131): the station at place 1 is called, or with an empty roster the cycle ends at once. -/
def State.startCycle (s : State) : State :=
  match s.line.roster with
  | [] => s.setLine { s.line with activity := .idle, position := 0 }
  | st :: _ => s.setLine { s.line with activity := .sending (s.callFor st), position := 1 }

/-- A cycle ends (R130): an owed cycle starts at once. -/
def State.endCycle (s : State) : State :=
  if s.line.owed then (s.setLine { s.line with owed := false }).startCycle
  else s.setLine { s.line with activity := .idle, position := 0 }

/-- The gap has ended (R131): the station at the place after the position is called, or the cycle ends. -/
def State.callNext (s : State) : State :=
  match s.line.roster[s.line.position]? with
  | some st => s.setLine { s.line with activity := .sending (s.callFor st), position := s.line.position + 1 }
  | none => s.endCycle

/-- An expiry of the cycle timer (R130). -/
def State.cycleExpires (s : State) : State :=
  let s1 := s.setLine { s.line with cycleSince := s.now }
  if s.line.activity.running then (s1.setLine { s1.line with owed := true }).raise .cycleOverrun 0 else s1.startCycle

/-- The last byte of a call has been sent (R132): the answer timer starts and the receiver opens. -/
def State.callSent (s : State) : State :=
  match s.line.activity with
  | .sending c => s.setLine { s.line with activity := .waiting c s.now }
  | _ => s

/-- A call has ended, and the gap follows (R131). -/
def State.startGap (s : State) : State := s.setLine { s.line with activity := .gap s.now }

/-! ## Misses (R134, R137) -/

/-- Replaces the station record at the address of the one given. -/
def State.putStation (st : Station) (s : State) : State :=
  s.setLine { s.line with roster := s.line.roster.map fun x => if x.cfg.address = st.cfg.address then st else x }

/-- The YARD station is LOST or retired: conditions are held and their assumed flags set (R31, R32). -/
def State.conditionsHeld (s : State) : State :=
  forEach holderIds (fun h t => t.setHolder h { t.holder h with assumed := true })
    (s.setConditions { s.conditions with barometerAssumed := true })

/-- What a station's owner does at its change to LOST (R137). -/
def State.lostNotice (k : StationKind) (s : State) : State :=
  match k with
  | .yard => s.conditionsHeld
  | .point d _ => s.evaluateDistrict d
  | .make | .governor _ | .dmeter _ => s

/-- A call to a station ends in a miss (R134). -/
def State.miss (st : Station) (s : State) : State :=
  let misses := min 255 (st.misses + 1)
  if 3 ≤ misses ∧ st.link ≠ .lost then (s.putStation { st with misses := misses, link := .lost }).lostNotice st.cfg.kind
  else s.putStation { st with misses := misses }

/-! ## Answers (R133, R192, R193) -/

/-- A temperature of a MAKE or DMETER answer; 0x8000 is a coding the layout does not define (R193). -/
def decodeTemp (bs : List Byte) : Option Int := if ofBytes bs = 0x8000 then none else some (signedOf 2 (ofBytes bs))

/-- A temperature place of a YARD answer: 0x7FFF is "no sensor", 0x8000 is undefined (R193). -/
def decodeTempPlace (bs : List Byte) : Option (Option Int) :=
  if ofBytes bs = 0x8000 then none else if ofBytes bs = 0x7FFF then some none else some (some (signedOf 2 (ofBytes bs)))

/-- The contents of an answer of a kind, or none if its length or its coding is not the kind's (R133, R192, R193). -/
def decodeContents (k : StationKind) (c : List Byte) : Option Answer :=
  let at2 (i : Nat) : List Byte := (c.drop i).take 2
  match k with
  | .yard =>
    if c.length ≠ 11 then none
    else
      match decodeTempPlace (at2 3), decodeTempPlace (at2 5), decodeTempPlace (at2 7), decodeTempPlace (at2 9) with
      | some a, some b, some d, some e => some (.yard (ofBytes (c.take 3)) #v[a, b, d, e])
      | _, _, _, _ => none
  | .make =>
    if c.length ≠ 9 then none
    else (decodeTemp (at2 5)).map fun t => .make (ofBytes (c.take 3)) (ofBytes (at2 3)) t (ofBytes (at2 7))
  | .governor _ =>
    if c.length ≠ 3 then none
    else
      match ofBytes (c.drop 2) with
      | 0 => some (.governor (ofBytes (c.take 2)) .normal)
      | 1 => some (.governor (ofBytes (c.take 2)) .localMode)
      | _ => none
  | .dmeter _ =>
    if c.length ≠ 7 then none
    else (decodeTemp (at2 5)).map fun t => .dmeter (ofBytes (c.take 3)) (ofBytes (at2 3)) t
  | .point _ _ =>
    if c.length ≠ 3 then none
    else
      match ofBytes (c.drop 2) with
      | 0 => some (.point (ofBytes (c.take 2)) true)
      | 1 => some (.point (ofBytes (c.take 2)) false)
      | _ => none

/-- The judgement of a received body against the station called (R133): a good answer's contents, or none for a miss. -/
def judgeAnswer (address : Nat) (k : StationKind) (body : List Byte) : Option Answer :=
  match body with
  | a :: n :: contents => if a.toNat = address ∧ n.toNat = k.number then decodeContents k contents else none
  | _ => none

/-! ## Good answers (R135, R136) -/

/-- A holder's temperature in use and its flag after a YARD answer (R32). -/
def Holder.tempAnswered (x : Holder) (t : Option Int) : Holder :=
  match t with
  | some v => { x with gasTemp := clampTemp v, assumed := false }
  | none => { x with assumed := true }

/-- A good YARD answer at the stock unit (R31, R32): the conditions in use are set, and the holders they change are
recomputed (R34), without evaluating limit conditions. -/
def State.yardAnswer (barometer : Nat) (temps : Vector (Option Int) 4) (s : State) : State :=
  let b := clampBarometer barometer
  let s1 := s.setConditions { s.conditions with barometer := b, barometerAssumed := false }
  let s2 := forEach holderIds (fun h t => t.setHolder h ((t.holder h).tempAnswered temps[h])) s1
  let changed := holderIds.filter fun h => b != s.conditions.barometer || (s2.holder h).gasTemp != (s.holder h).gasTemp
  forEach changed (State.recompute false) s2

/-- A good GOVERNOR answer at the pressure loop (R120 to R122), judged against the value carried in the same call. -/
def State.governorAnswer (g : GovernorId) (carried : Option Nat) (taken : Nat) (mode : StationMode) (s : State) : State :=
  let v := s.governor g
  let t := clampNat 0 10000 taken
  s.setGovernor g
    { v with
      taken := some t
      stationMode := some mode
      notFollowing := if carried = some t then 0 else min 3 (v.notFollowing + 1) }

/-- A good answer is handed to its owners (R136). -/
def State.handAnswer (st : StationSettings) (carried : Option Nat) (a : Answer) (s : State) : State :=
  match st.kind, a with
  | .yard, .yard b temps => s.yardAnswer b temps
  | .make, .make i p t cv => (s.setConditions { s.conditions with lastMakeCv := some cv }).makeMeter st i p t cv
  | .governor g, .governor taken mode => s.governorAnswer g carried taken mode
  | .dmeter d, .dmeter i p t => s.districtMeter d st i p t
  | .point d _, .point _ _ => s.evaluateDistrict d
  | _, _ => s

/-- A call brings a good answer (R135): miss count, link state and last answer first, then the owners. -/
def State.goodAnswer (st : Station) (carried : Option Nat) (a : Answer) (s : State) : State :=
  (s.putStation { st with misses := 0, link := .active, answer := some a }).handAnswer st.cfg carried a

/-- The end of a call's wait: what the station called is found to have brought, judged unless the call is discarded,
then the gap (R129, R131, R132). -/
def State.endCall (c : Call) (a : Option Answer) (s : State) : State :=
  let s1 :=
    match s.station c.address with
    | some st =>
      if c.discarded then s
      else
        match a with
        | some x => s.goodAnswer st c.carried x
        | none => s.miss st
    | none => s
  s1.startGap

/-- The bytes of a frame received in a call's wait (R132, R133). Bytes that complete no frame end nothing, and bytes
received while no call waits are discarded. -/
def State.answerReceived (bytes : List Byte) (s : State) : State :=
  match s.line.activity with
  | .waiting c _ =>
    match receive bytes with
    | .incomplete => s
    | .broken => s.endCall c none
    | .body b => s.endCall c (judgeAnswer c.address c.kind b)
  | _ => s

/-- The answer timer expires with no complete frame (R132, R134). -/
def State.answerTimeout (s : State) : State :=
  match s.line.activity with
  | .waiting c _ => s.endCall c none
  | _ => s

/-! ## Enrolling and retiring (R123, R128, R129, R148) -/

/-- The station an ENROL request describes, or none if check 1 of R128 fails. -/
def enrolled (r : EnrolRequest) : Option StationSettings :=
  match stationKindOf r.kind r.bindingA r.bindingB with
  | none => none
  | some k =>
    if r.address = 0 ∨ 254 < r.address then none
    else
      match r.maxIncrement with
      | none => some ⟨r.address, k, 50000⟩
      | some m => if k.isMeter = true ∧ 0 < m ∧ m ≤ 200000 then some ⟨r.address, k, m⟩ else none

/-- A change of the GOVERNOR station bound to a governor (R123). The value carried in a call goes with the call. -/
def State.governorStationChanged (g : GovernorId) (s : State) : State :=
  s.setGovernor g { s.governor g with taken := none, stationMode := none, notFollowing := 0 }

/-- The owner of a binding is told of a new station (R128). -/
def State.bindingFilled (k : StationKind) (s : State) : State :=
  match k with
  | .yard => s
  | .make => s.setYard { s.yard with lastMakeIndex := none }
  | .governor g => s.governorStationChanged g
  | .dmeter d => s.setAccount d { s.account d with lastIndex := none }
  | .point d _ => s.evaluateDistrict d

/-- The owner of a binding is told that its station is gone (R129). -/
def State.bindingEmptied (k : StationKind) (s : State) : State :=
  match k with
  | .yard => s.conditionsHeld
  | .make => s.setYard { s.yard with lastMakeIndex := none }
  | .governor g => s.governorStationChanged g
  | .dmeter d => s.setAccount d { s.account d with lastIndex := none }
  | .point d _ => s.evaluateDistrict d

/-- A station accepted by ENROL joins the end of the roster (R128). -/
def State.addStation (c : StationSettings) (s : State) : State :=
  (s.setLine { s.line with roster := s.line.roster ++ [⟨c, .unheard, 0, none⟩] }).bindingFilled c.kind

/-- A call to an address, sending or waiting, is marked discarded (R129, R132). -/
def LineActivity.discard (x : LineActivity) (address : Nat) : LineActivity :=
  match x with
  | .sending c => if c.address = address then .sending { c with discarded := true } else x
  | .waiting c t => if c.address = address then .waiting { c with discarded := true } t else x
  | .idle | .gap _ => x

/-- The cycle's position after the station at a place (from 0) is retired (R129, R131). -/
def FieldLine.positionWithout (l : FieldLine) (place : Nat) : Nat :=
  if l.activity.running && decide (place < l.position) then l.position - 1 else l.position

/-- A station is removed from the roster (R129). -/
def State.removeStation (st : Station) (s : State) : State :=
  let l := s.line
  let place := l.roster.findIdx fun x => x.cfg.address == st.cfg.address
  (s.setLine
    { l with
      roster := l.roster.eraseIdx place
      position := l.positionWithout place
      activity := l.activity.discard st.cfg.address }).bindingEmptied st.cfg.kind

end Sys2Proof.Machine
end

