-- ==== Sys2Proof/Machine/Records.lean ====
section
/-! DEFINITION. The encodings of records in replies (R188 to R191): field by field in the order of 11.5, the valve and
profile table records in the order of the tables of their chapters. -/

namespace Sys2Proof.Machine

/-- A bit mask of the items of a list: bit 0 for item 1. -/
def maskOf {n : Nat} (xs : List (Fin n)) : Nat := (xs.map fun i => 2 ^ i.val).sum

/-- The holder record, 58 bytes (R191). -/
def State.encodeHolder (s : State) (h : HolderId) : List Byte :=
  let c := s.holderCfg h
  let x := s.holder h
  beBytes 1 c.lifts ++ c.area.toList.flatMap (beBytes 2) ++ c.stroke.toList.flatMap (beBytes 2) ++
    beBytes 2 c.totalStroke ++ c.pressure.toList.flatMap (beBytes 2) ++
    beBytes 2 c.lowStop ++ beBytes 2 c.lowWarn ++ beBytes 2 c.highWarn ++ beBytes 2 c.highStop ++
    beBytes 2 c.hysteresis ++ beBytes 2 c.markTolerance ++
    beBytes 1 x.service.code ++ beBytes 2 x.height ++ beBytes 1 x.status.code ++ beOpt 3 x.stock ++
    beBytes 1 x.floating ++ beBytes 2 x.pressure ++ beOpt 2 x.meanCv ++ beInt 2 x.gasTemp ++
    flagByte x.assumed ++ beBytes 1 x.limit.code ++ beBytes 1 (maskOf (s.governorsLed h)) ++
    beOpt 2 ((s.runningFill h).map (·.number))

/-- The valve record, 11 bytes (R188: the order of R42 and R44; fitted YES is 0, the first of its Values column). -/
def State.encodeValve (s : State) (v : ValveId) : List Byte :=
  let c := s.valveCfg v
  let x := s.valve v
  beBytes 1 (itemNo v) ++ beBytes 1 (if c.fitted then 0 else 1) ++ beBytes 2 c.travelLimit ++
    beBytes 1 x.state.code ++ beOpt 1 (x.state.reason.map (·.code)) ++
    beBytes 1 (s.openSwitch v).code ++ beBytes 1 (s.shutSwitch v).code ++ beBytes 1 x.drive.code ++
    beOpt 2 (x.travel.map (·.limit))

/-- The order record, 20 bytes (R191). -/
def Order.encode (o : Order) : List Byte :=
  let kind :=
    match o.kind with
    | .fill _ _ => 0
    | .send _ => 1
  let governor :=
    match o.kind with
    | .fill _ _ => none
    | .send g => some (itemNo g)
  let target :=
    match o.kind with
    | .fill t _ => some t
    | .send _ => none
  let limit :=
    match o.kind with
    | .fill _ l => l
    | .send _ => none
  beBytes 2 o.number ++ beBytes 1 kind ++ beBytes 1 (itemNo o.holder) ++ beOpt 1 governor ++ beOpt 3 target ++
    beOpt 2 limit ++ beBytes 1 o.state.code ++ beOpt 1 (o.state.reason.map (·.code)) ++ beBytes 2 o.minuteOpened ++
    beOpt 3 o.startStock ++ beOpt 3 o.endStock

/-- A lead origin: its code, then the order number, 0 unless ORDER (R191). -/
def encodeOrigin : Option LeadOrigin → List Byte
  | some (.order n) => beBytes 1 0 ++ beBytes 2 n
  | some .automatic => beBytes 1 1 ++ beBytes 2 0
  | some .start => beBytes 1 2 ++ beBytes 2 0
  | none => beBytes 1 255 ++ beBytes 2 0

/-- How a changeover was made, coded as a lead origin (R191). -/
def ChangeoverBy.origin : ChangeoverBy → LeadOrigin
  | .order n => .order n
  | .automatic => .automatic

/-- The standby list: count, then three holders, unused places 0 (R191). -/
def encodeStandby (hs : List HolderId) : List Byte :=
  beBytes 1 hs.length ++ ((hs.map itemNo ++ [0, 0, 0]).take 3).flatMap (beBytes 1)

/-- The deferred triggers: bit 0 WARN, bit 1 CEILING, bit 2 REMOVAL (R191). -/
def Triggers.mask (t : Triggers) : Nat :=
  (if t.warn then 1 else 0) + (if t.ceiling then 2 else 0) + (if t.removal then 4 else 0)

/-- The governor record, 97 bytes (R191). -/
def State.encodeGovernor (s : State) (g : GovernorId) : List Byte :=
  let c := s.governorCfg g
  let x := s.governor g
  beBytes 2 c.minSetpoint ++ beBytes 2 c.maxSetpoint ++ beBytes 1 c.step ++ beBytes 2 c.trimLimit ++
    beBytes 1 c.mode.code ++ beBytes 2 c.balanceBand ++ beBytes 2 c.adjustPeriod ++ encodeStandby c.standby ++
    flagByte c.autoChangeover ++ beBytes 2 c.mainLoss ++ beOpt 1 (s.addressOf (.governor g)) ++
    beBytes 1 (maskOf (s.served g)) ++ beOpt 1 (x.lead.map fun l => itemNo l.holder) ++
    encodeOrigin (x.lead.map (·.origin)) ++ beOpt 1 (x.slot.map fun k => itemNo k.holder) ++
    encodeOrigin (x.slot.map fun k => k.made.origin) ++ beBytes 1 x.status.code ++ beOptInt 2 x.ceiling ++
    flagByte x.short ++ beBytes 1 x.deferred.mask ++ flagByte x.retry ++ beBytes 1 x.request.code ++
    beBytes 1 x.combining.code ++ beInt 2 x.trim ++ beBytes 2 x.base ++ beInt 2 x.desired ++ beBytes 2 x.commanded ++
    beOpt 2 x.taken ++ beOpt 1 (x.stationMode.map (·.code)) ++ beBytes 1 x.notFollowing ++
    c.bandA.toList.flatMap (beBytes 1) ++ c.bandB.toList.flatMap (beBytes 1)

/-- A volume, an energy and a CV-assumed flag (R191). -/
def Figures.encode (f : Figures) : List Byte := beBytes 4 f.volume ++ energyBytes f.energy ++ flagByte f.cvAssumed

/-- The district record, 40 bytes (R191). -/
def State.encodeDistrict (s : State) (d : DistrictId) : List Byte :=
  let c := s.districtCfg d
  let x := s.district d
  let a := s.account d
  beBytes 1 (itemNo c.governor) ++ beBytes 2 c.fMin ++ beBytes 2 c.band ++
    beOpt 1 (s.addressOf (.point d 0)) ++ beOpt 1 (s.addressOf (.point d 1)) ++ beOpt 1 (s.addressOf (.point d 2)) ++
    beOpt 2 x.farEnd ++ beOptInt 2 x.margin ++ beBytes 1 x.request.code ++ flagByte x.blind ++
    beOpt 1 (s.addressOf (.dmeter d)) ++ beOpt 3 a.lastIndex ++ a.today.encode ++ a.yesterday.encode

/-- A temperature place: "no sensor" is 0x7FFF (R193). -/
def encodeTempPlace : Option Int → List Byte
  | some t => beInt 2 t
  | none => beBytes 2 0x7FFF

/-- The contents of an answer as the field line carries them (R192). -/
def Answer.encode : Answer → List Byte
  | .yard b temps => beBytes 3 b ++ temps.toList.flatMap encodeTempPlace
  | .make i p t cv => beBytes 3 i ++ beBytes 2 p ++ beInt 2 t ++ beBytes 2 cv
  | .governor t m => beBytes 2 t ++ beBytes 1 m.code
  | .dmeter i p t => beBytes 3 i ++ beBytes 2 p ++ beInt 2 t
  | .point p good => beBytes 2 p ++ beBytes 1 (if good then 0 else 1)

/-- The station record (R191): the last answer behind its length byte. -/
def Station.encode (st : Station) : List Byte :=
  let answer := (st.answer.map Answer.encode).getD []
  beBytes 1 st.cfg.address ++ beBytes 1 st.cfg.kind.number ++ beBytes 1 st.cfg.kind.binding.1 ++
    beBytes 1 st.cfg.kind.binding.2 ++ beOpt 3 (if st.cfg.kind.isMeter then some st.cfg.maxIncrement else none) ++
    beBytes 1 st.link.code ++ beBytes 1 st.misses ++ beBytes 1 answer.length ++ answer

/-- The closed day, 32 bytes, every byte 0xFF while none is held (R191). -/
def encodeClosedDay : Option ClosedDay → List Byte
  | none => List.replicate 32 0xFF#8
  | some c =>
    beBytes 1 c.dayIndex ++ beOpt 3 c.opening ++ beBytes 4 c.makeVolume ++ energyBytes c.makeEnergy ++
      beBytes 4 c.sendVolume ++ energyBytes c.sendEnergy ++ beOpt 3 c.closing ++ beOptInt 4 c.unaccounted ++
      flagByte c.incomplete

/-- The yard record, 91 bytes (R191), with the send-out for today found at the READ (R153). -/
def State.encodeYard (s : State) : List Byte :=
  let y := s.yardCfg
  beBytes 2 y.debounce ++ beBytes 1 y.cyclePeriod ++ beBytes 2 y.answerTimeout ++ beBytes 2 y.declaredCv ++
    beBytes 2 y.cvFloor ++ beBytes 2 y.cvCeiling ++ beBytes 2 y.closeMinute ++ beBytes 1 y.tolerance ++
    y.week.toList.flatMap (fun x => beBytes 1 x.code) ++ beBytes 1 y.threshold ++
    beBytes 3 s.conditions.barometer ++ flagByte s.conditions.barometerAssumed ++ beBytes 1 s.trip.code ++
    beBytes 2 s.clock.minute ++ flagByte s.clock.isSet ++ beBytes 1 s.clock.dayIndex ++ beOpt 3 s.yard.opening ++
    beBytes 4 s.yard.makeVolume ++ energyBytes s.yard.makeEnergy ++ beOpt 1 (s.addressOf .make) ++
    beOpt 3 s.yard.lastMakeIndex ++ beBytes 4 s.sendVolume ++ energyBytes s.sendEnergy ++
    encodeClosedDay s.yard.closedDay ++ beBytes 1 s.store.state.code

/-! ## Alert groups and instances (R190, R191) -/

/-- The pending instances of a group, in list order. -/
def State.instancesOf (s : State) (g : GroupId) : List Pending := s.alerts.list.filter fun p => p.cause.kind.group == g

/-- One instance, nine bytes (R190). -/
def Pending.encode (p : Pending) : List Byte :=
  let isEvent := p.cause.kind.isEvent
  let bits := (if isEvent then 1 else 0) + (if !isEvent && p.acknowledged then 2 else 0)
  beBytes 1 (p.cause.kind.index.val + 1) ++ beBytes 2 p.cause.item ++ beBytes 1 bits ++
    beBytes 1 (if isEvent then p.count else 0) ++ beBytes 2 p.minuteRaised ++
    beBytes 2 (if isEvent then p.minuteLast else p.minuteRaised)

/-- The number listed and the instances listed, at most 24 (R170, R190). -/
def encodeListed (ps : List Pending) : List Byte :=
  beBytes 1 (ps.take Config.listedInstances).length ++ (ps.take Config.listedInstances).flatMap Pending.encode

/-- The enables of a group: bit 0 for its first kind (R191). -/
def State.enablesMask (s : State) (g : GroupId) : Nat :=
  ((kindsOf g).zipIdx.map fun x => if s.enabled x.1 then 2 ^ x.2 else 0).sum

/-- The alert group record (R191), then the instances from a starting place (R170, R190). -/
def State.encodeGroup (s : State) (g : GroupId) (start : Nat) : List Byte :=
  beBytes 1 s.settings.levels[g] ++ beBytes 1 (s.enablesMask g) ++ beBytes 2 (s.instancesOf g).length ++
    encodeListed ((s.instancesOf g).drop (start - 1))

/-- A record's encoding as it stands (R176, R191). -/
def State.encodeRecord (s : State) (r : RecordRef) : List Byte :=
  match r with
  | .holder h => s.encodeHolder h
  | .valve v => s.encodeValve v
  | .order n => ((s.order n).map Order.encode).getD []
  | .governor g => s.encodeGovernor g
  | .district d => s.encodeDistrict d
  | .station a => ((s.station a).map Station.encode).getD []
  | .profiles => s.settings.profiles.toList.flatMap (beBytes 2)
  | .yard => s.encodeYard
  | .alertGroup g start => s.encodeGroup g start

end Sys2Proof.Machine
end

