-- ==== Sys2Proof/Machine/Requests.lean ====
section
/-! DEFINITION. The requests of the host but AMEND (10.2, R175): each checked and applied by the rules of the block that
owns the records named, with what the reply carries. -/

namespace Sys2Proof.Machine

/-! ## What a request comes to (R175, R189) -/

/-- What a request comes to: refused with a code (an AMEND names a field, 0 for none), answered without any change, or
done with the state it leaves and the contents of the reply, built from the records as they stand after the event. -/
inductive Served where
  | refused (code : RefusalCode) (field : Option Nat)
  | answered (contents : List Byte)
  | done (s : State) (contents : State → List Byte)

/-- The body of a REFUSED reply (11.3). -/
def refusedBody (request : Nat) (code : RefusalCode) (field : Option Nat) : List Byte :=
  beBytes 1 request ++ beBytes 1 code.number ++ (field.map (beBytes 1)).getD []

/-- The body of a DONE reply (11.3). -/
def doneBody (request : Nat) (contents : List Byte) : List Byte := beBytes 1 request ++ beBytes 1 0 ++ contents

/-- The port replies (R174): REPLYING, with the body of the reply. -/
def State.replying (body : List Byte) (s : State) : State :=
  s.setPort { s.port with receiver := .replying, frame := [], reply := some body }

/-- The reply to a request of a request kind (R175): a refused request and one that only reads change no record. -/
def State.respond (request : Nat) (x : Served) (s : State) : State :=
  match x with
  | .refused code field => s.replying (refusedBody request code field)
  | .answered contents => s.replying (doneBody request contents)
  | .done t contents => t.settle.replying (doneBody request (contents t.settle))

/-- A DONE reply with no contents. -/
def emptyContents (_ : State) : List Byte := []

/-! ## READ and LIST (R58, R126, R176) -/

/-- The contents of the DONE reply to READ and AMEND: record kind, key, then the record's encoding (11.3). -/
def State.recordContents (kind key : Nat) (r : RecordRef) (s : State) : List Byte :=
  beBytes 1 kind ++ beBytes 2 key ++ s.encodeRecord r

/-- READ (R176). -/
def State.serveRead (kind key : Nat) (s : State) : Served :=
  match s.recordOf kind key with
  | .error c => .refused c none
  | .ok r => .answered (s.recordContents kind key r)

/-- LIST ORDERS: the count, then each order number in opening order (R58, 11.3). -/
def State.serveListOrders (s : State) : Served :=
  .answered (beBytes 1 s.book.orders.length ++ s.book.orders.flatMap fun o => beBytes 2 o.number)

/-- A station as LIST ROSTER shows it: address, kind, link state (R126, 11.3). -/
def Station.listed (st : Station) : List Byte :=
  beBytes 1 st.cfg.address ++ beBytes 1 st.cfg.kind.number ++ beBytes 1 st.link.code

/-- LIST ROSTER: the count, then each station in call order (R126, 11.3). -/
def State.serveListRoster (s : State) : Served :=
  .answered (beBytes 1 s.line.roster.length ++ s.line.roster.flatMap Station.listed)

/-! ## OPEN (R59, R60) -/

/-- An order number and the state the order holds (11.3). -/
def State.orderContents (n : Nat) (s : State) : List Byte :=
  match s.order n with
  | some o => beBytes 2 n ++ beBytes 1 o.state.code
  | none => beBytes 2 n

/-- The order an OPEN request comes to, or the code of the first check that fails, from check 2 on (R59). -/
def State.openCheck (r : OpenRequest) (s : State) : Except RefusalCode (HolderId × OrderKind) :=
  match r with
  | .fill holder target limit =>
    match itemOf 4 holder with
    | none => .error .noSuchRecord
    | some h =>
      if target = 0 ∨ 999999 < target ∨ limit = some 0 ∨ 1440 < limit.getD 0 then .error .badValue
      else if (s.holder h).service = .out then .error .outOfService
      else if s.trip ≠ .inactive then .error .tripped
      else .ok (h, .fill target limit)
  | .send holder governor =>
    match itemOf 4 holder, itemOf 4 governor with
    | some h, some g =>
      if (s.valveCfg (outletOf h g)).fitted = false then .error .notFitted
      else if (s.holder h).service = .out then .error .outOfService
      else if s.leads h g = true ∨ s.changingTo h g = true then .error .noChange
      else .ok (h, .send g)
    | _, _ => .error .noSuchRecord

/-- The order record of an accepted OPEN (R56, R60). -/
def State.newOrder (h : HolderId) (k : OrderKind) (s : State) : Order where
  number := s.book.issue
  kind := k
  holder := h
  state := .queued
  minuteOpened := s.clock.minute
  startStock := none
  endStock := none
  limitTimer := none

/-- An order joins the end of the book, and its number becomes the last issued (R57, R60). -/
def State.addOrder (o : Order) (s : State) : State :=
  { s with book := ⟨s.book.orders ++ [o], o.number⟩ }

/-- The queue rule is applied to an accepted order (R60). A SEND that completes or ends at its start frees the slot it
may have passed through, and R91 follows. -/
def State.startAccepted (h : HolderId) (k : OrderKind) (s : State) : State :=
  match k with
  | .fill _ _ => s.fillRule h
  | .send g => if (s.governor g).slot.isSome then s else s.slotFreed g

/-- OPEN (R59, R60). -/
def State.serveOpen (r : OpenRequest) (s : State) : Served :=
  if Config.bookCapacity ≤ s.book.orders.length then .refused .bookFull none
  else
    match s.openCheck r with
    | .error c => .refused c none
    | .ok (h, k) =>
      .done ((s.addOrder (s.newOrder h k)).startAccepted h k) (State.orderContents (s.newOrder h k).number)

/-! ## CANCEL and RETIRE of an order (R74 to R76) -/

/-- A SEND in CHANGING is cancelled (R72, R75): it ends CANCELLED, its outlet is commanded SHUT, no CHANGEOVER_FAILED. -/
def State.cancelChanging (o : Order) (g : GovernorId) (s : State) : State :=
  ((s.endChangeover g ⟨o.holder, .order o.number⟩ .cancelled false).command (outletOf o.holder g) .toShut).slotFreed g

/-- A live order is cancelled (R74, R75), or the code of the refusal. The SHUT of a running FILL comes before the start
of the next FILL, whose OPEN governs. -/
def State.cancelled (o : Order) (s : State) : Except RefusalCode State :=
  match o.state, o.kind with
  | .ended _, _ => .error .noChange
  | .leading, _ => .error .leadInUse
  | .queued, .fill _ _ => .ok ((s.endOrder o.number .cancelled).fillRule o.holder)
  | _, .fill _ _ => .ok (s.stopFill o .cancelled)
  | .queued, .send g => .ok ((s.endOrder o.number .cancelled).sendRule g)
  | _, .send g => .ok (s.cancelChanging o g)

/-- CANCEL (R74, R75). -/
def State.serveCancel (n : Nat) (s : State) : Served :=
  match s.order n with
  | none => .refused .noSuchRecord none
  | some o =>
    match s.cancelled o with
    | .error c => .refused c none
    | .ok t => .done t (State.orderContents n)

/-- An ENDED order leaves the book with its ORDER_ENDED instance (R76). -/
def State.retireOrder (n : Nat) (s : State) : State :=
  (s.setOrders (s.book.orders.filter fun o => o.number != n)).setAlerts
    { s.alerts with list := s.alerts.list.filter fun p => p.cause != ⟨.orderEnded, n⟩ }

/-- RETIRE naming an order (R76). -/
def State.serveRetireOrder (n : Nat) (s : State) : Served :=
  match s.order n with
  | none => .refused .noSuchRecord none
  | some o => if o.isEnded then .done (s.retireOrder n) emptyContents else .refused .notEnded none

/-! ## RETIRE of a station and ENROL (R128, R129) -/

/-- RETIRE naming a station (R129). -/
def State.serveRetireStation (address : Nat) (s : State) : Served :=
  match s.station address with
  | none => .refused .noSuchRecord none
  | some st => .done (s.removeStation st) emptyContents

/-- ENROL (R128). The limits of R126 come to one station for each kind and binding. -/
def State.serveEnrol (r : EnrolRequest) (s : State) : Served :=
  match enrolled r with
  | none => .refused .badValue none
  | some c =>
    if Config.rosterCapacity ≤ s.line.roster.length then .refused .rosterFull none
    else if (s.station c.address).isSome then .refused .inUse none
    else if (s.stationOf c.kind).isSome then .refused .inUse none
    else .done (s.addStation c) emptyContents

/-! ## ACKNOWLEDGE (R167) -/

/-- The cause kind with a number (R190). -/
def causeKindOf (n : Nat) : Option CauseKind := if n = 0 then none else causeKinds[n - 1]?

/-- An acknowledgement of one pending instance: an event leaves the list, a condition has acknowledged set. -/
def Pending.acknowledge (p : Pending) : Option Pending :=
  if p.cause.kind.isEvent then none else some { p with acknowledged := true }

/-- Whether an acknowledgement would change an instance. -/
def Pending.acknowledgeable (p : Pending) : Bool := p.cause.kind.isEvent || !p.acknowledged

/-- The list with every instance that a test picks acknowledged. -/
def acknowledgeAll (picks : Pending → Bool) (ps : List Pending) : List Pending :=
  ps.filterMap fun p => if picks p then p.acknowledge else some p

/-- The picked instances are acknowledged; the reply gives how many of them that changed. -/
def State.acknowledge (picks : Pending → Bool) (s : State) : Served :=
  .done (s.setAlerts { s.alerts with list := acknowledgeAll picks s.alerts.list }) fun _ =>
    beBytes 2 (s.alerts.list.filter fun p => picks p && p.acknowledgeable).length

/-- ACKNOWLEDGE naming an instance (R167). -/
def State.acknowledgeNamed (g : GroupId) (kind item : Nat) (s : State) : Served :=
  match causeKindOf kind with
  | none => .refused .noSuchRecord none
  | some k =>
    if k.group ≠ g then .refused .noSuchRecord none
    else
      match s.alerts.list.find? fun p => p.cause == ⟨k, item⟩ with
      | none => .refused .noSuchRecord none
      | some p => if p.acknowledgeable then s.acknowledge fun q => q.cause == ⟨k, item⟩ else .refused .noChange none

/-- ACKNOWLEDGE (R167). -/
def State.serveAcknowledge (r : AcknowledgeRequest) (s : State) : Served :=
  match itemOf 7 r.group with
  | none => .refused .noSuchRecord none
  | some g =>
    match r.named with
    | some (kind, item) => s.acknowledgeNamed g kind item
    | none => s.acknowledge fun p => p.cause.kind.group == g

/-! ## SUMMARY (R170, R190) -/

/-- Groups 1 to 7. -/
def groupIds : List GroupId := [0, 1, 2, 3, 4, 5, 6]

/-- Whether a group may be the summary group: nonzero level, and an unacknowledged pending instance (R170). -/
def State.groupQualifies (s : State) (g : GroupId) : Bool :=
  s.settings.levels[g] != 0 && s.alerts.list.any fun p => p.cause.kind.group == g && !p.acknowledged

/-- Of two groups the one SUMMARY chooses: the higher level, and the first of equals (R170). -/
def State.betterGroup (s : State) (best : Option GroupId) (g : GroupId) : Option GroupId :=
  match best with
  | none => some g
  | some b => if s.settings.levels[b] < s.settings.levels[g] then some g else some b

/-- The summary group (R170). -/
def State.summaryGroup (s : State) : Option GroupId :=
  (groupIds.filter s.groupQualifies).foldl s.betterGroup none

/-- SUMMARY (R170, R190). With no summary group the level and the number of pending instances are sent as 0 (log entry 38). -/
def State.serveSummary (s : State) : Served :=
  match s.summaryGroup with
  | none => .answered (beBytes 1 0 ++ beBytes 1 0 ++ beBytes 2 0 ++ beBytes 1 0)
  | some g =>
    .answered
      (beBytes 1 (itemNo g) ++ beBytes 1 s.settings.levels[g] ++ beBytes 2 (s.instancesOf g).length ++
        encodeListed (s.instancesOf g))

/-! ## STORE and RESTART (R180, R184) -/

/-- Every configuration field as it stands, with the roster's call order (R179). -/
def State.configuration (s : State) : Configuration := ⟨s.settings, s.line.roster.map (·.cfg)⟩

/-- Whether the store is WRITING (R180, R184). -/
def StoreState.isWriting : StoreState → Bool
  | .writing _ => true
  | .idle | .failed => false

/-- STORE (R180). -/
def State.serveStore (s : State) : Served :=
  if s.store.state.isWriting then .refused .busy none
  else .done (s.setStore { s.store with state := .writing s.configuration }) emptyContents

/-- RESTART (R184): the start is held until the reply has been sent. -/
def State.serveRestart (k : StartKind) (s : State) : Served :=
  if s.store.state.isWriting then .refused .busy none
  else .done (s.setPort { s.port with restart := some k }) emptyContents

end Sys2Proof.Machine
end

