-- ==== Sys2Proof/Machine/Amend.lean ====
section
/-! DEFINITION. AMEND (10.3): the pairs checked one at a time (R177), the consistency rules and the use of the record
(R178), and what each changed field does at the event. -/

namespace Sys2Proof.Machine

/-! ## Pairs (R177, R189) -/

/-- The value a list of pairs gives a field. -/
def given (ps : List (Nat × Int)) (f : Nat) : Option Int := (ps.find? fun p => p.1 == f).map (·.2)

/-- The number a list of pairs gives a field, or the number the field holds. -/
def numberOr (ps : List (Nat × Int)) (f old : Nat) : Nat := ((given ps f).map Int.toNat).getD old

/-- The field after the last whole pair in which a request body ends, or whose value it cuts (R189). -/
abbrev CutField := Option Nat

/-- One pair checked (R177): the code of the first of its tests that fails. -/
def State.pairRefusal (r : RecordRef) (seen : List Nat) (p : Nat × Int) (s : State) : Option RefusalCode :=
  match s.fieldRule r p.1 with
  | .undefined => some .unknownKind
  | .readOnly => if seen.contains p.1 then some .badValue else some .readOnly
  | .range lo hi =>
    if seen.contains p.1 then some .badValue
    else if p.2 < lo ∨ hi < p.2 then some .badValue
    else if r.kind = 4 ∧ p.1 = 8 ∧ standbyCoded p.2 = false then some .badValue
    else none

/-- The pairs checked in the order given: the code and the field of the first that fails (R177). -/
def State.firstRefusal (r : RecordRef) (s : State) : List Nat → List (Nat × Int) → Option (RefusalCode × Nat)
  | _, [] => none
  | seen, p :: ps =>
    match s.pairRefusal r seen p with
    | some c => some (c, p.1)
    | none => State.firstRefusal r s (p.1 :: seen) ps

/-! ## Consistency rules (R2, R12, R83, R103, R108, R119, R178) -/

/-- The field numbers of the strokes of lifts 1 to L. -/
def HolderSettings.strokeFields (c : HolderSettings) : List Nat := c.fittedLifts.map fun i => 6 + i.val

/-- Whether a list does not fall. -/
def nonDecreasing : List Nat → Bool
  | [] => true
  | [_] => true
  | x :: y :: zs => decide (x ≤ y) && nonDecreasing (y :: zs)

/-- The limit heights in order below T (R2). -/
def HolderSettings.limitsOrdered (c : HolderSettings) : Bool :=
  decide (0 < c.lowStop ∧ c.lowStop < c.lowWarn ∧ c.lowWarn < c.highWarn ∧ c.highWarn < c.highStop ∧
    c.highStop ≤ c.totalStroke)

/-- The fields of a list that take part in a rule, if it is broken. -/
def brokenIf (holds : Bool) (fields : List Nat) : List Nat := if holds then [] else fields

/-- The fields that take part in a broken rule of a holder record (R2, R12), with the gauge height given, if any. L and the
strokes S1 to SL take part in the rule that the gauge height is at most T (log entry 37). -/
def HolderSettings.brokenFields (c : HolderSettings) (height : Option Int) : List Nat :=
  brokenIf (decide (c.totalStroke ≤ 40000)) (1 :: c.strokeFields) ++
    brokenIf (nonDecreasing (c.fittedLifts.map fun i => c.pressure[i])) (1 :: c.fittedLifts.map fun i => 11 + i.val) ++
    brokenIf c.limitsOrdered ([15, 16, 17, 18, 1] ++ c.strokeFields) ++
    brokenIf (decide (c.lowStop + 2 * c.hysteresis < c.highStop)) [15, 18, 19] ++
    brokenIf (height.all fun v => decide (v ≤ (c.totalStroke : Int))) ([22, 1] ++ c.strokeFields)

/-- A holder's configuration with the pairs applied (R1). -/
def HolderSettings.amended (c : HolderSettings) (ps : List (Nat × Int)) : HolderSettings where
  lifts := numberOr ps 1 c.lifts
  area := Vector.ofFn fun i => numberOr ps (2 + i.val) c.area[i]
  stroke := Vector.ofFn fun i => numberOr ps (6 + i.val) c.stroke[i]
  pressure := Vector.ofFn fun i => numberOr ps (11 + i.val) c.pressure[i]
  lowStop := numberOr ps 15 c.lowStop
  lowWarn := numberOr ps 16 c.lowWarn
  highWarn := numberOr ps 17 c.highWarn
  highStop := numberOr ps 18 c.highStop
  hysteresis := numberOr ps 19 c.hysteresis
  markTolerance := numberOr ps 20 c.markTolerance

/-- The mode with a code (R191). -/
def modeOf (n : Nat) : Mode :=
  match n with
  | 0 => .secure
  | 1 => .economy
  | _ => .balanced

/-- The band table with a code (R191). -/
def bandOf (n : Nat) : Band := if n = 0 then .a else .b

/-- A flag from its code (R188). -/
def flagOr (ps : List (Nat × Int)) (f : Nat) (old : Bool) : Bool := ((given ps f).map (· != 0)).getD old

/-- A governor's configuration with the pairs applied (R83, R108). -/
def GovernorSettings.amended (c : GovernorSettings) (ps : List (Nat × Int)) : GovernorSettings where
  minSetpoint := numberOr ps 1 c.minSetpoint
  maxSetpoint := numberOr ps 2 c.maxSetpoint
  step := numberOr ps 3 c.step
  trimLimit := numberOr ps 4 c.trimLimit
  mode := ((given ps 5).map fun v => modeOf v.toNat).getD c.mode
  balanceBand := numberOr ps 6 c.balanceBand
  adjustPeriod := numberOr ps 7 c.adjustPeriod
  standby := ((given ps 8).map fun v => (standbyOf v).filterMap id).getD c.standby
  autoChangeover := flagOr ps 9 c.autoChangeover
  mainLoss := numberOr ps 10 c.mainLoss
  bandA := Vector.ofFn fun i => numberOr ps (30 + i.val) c.bandA[i]
  bandB := Vector.ofFn fun i => numberOr ps (54 + i.val) c.bandB[i]

/-- The fields that take part in a broken rule of a governor record (R83, R108, R119). -/
def GovernorSettings.brokenFields (c : GovernorSettings) (ps : List (Nat × Int)) : List Nat :=
  brokenIf ((given ps 8).all standbyAllowed) [8] ++ brokenIf (decide (c.minSetpoint ≤ c.maxSetpoint)) [1, 2] ++
    brokenIf ((given ps 23).all fun v => decide (v.natAbs ≤ c.trimLimit)) [23, 4]

/-- A district's configuration with the pairs applied (R103). -/
def DistrictSettings.amended (c : DistrictSettings) (ps : List (Nat × Int)) : DistrictSettings where
  governor := ((given ps 1).bind fun v => itemOf 4 v.toNat).getD c.governor
  fMin := numberOr ps 2 c.fMin
  band := numberOr ps 3 c.band

/-- The configuration with one district's fields replaced. -/
def Settings.withDistrict (c : Settings) (d : DistrictId) (x : DistrictSettings) : Settings :=
  { c with districts := c.districts.set d x }

/-- The fields that take part in a broken rule of a district record: a new governor left serving more than two (R103). -/
def Settings.districtBroken (c : Settings) (d : DistrictId) (x : DistrictSettings) : List Nat :=
  brokenIf (x.governor == c.districts[d].governor || decide (((c.withDistrict d x).served x.governor).length ≤ 2)) [1]

/-- The yard settings with the pairs applied (R9, R37, R127, R144, R163). -/
def YardSettings.amended (c : YardSettings) (ps : List (Nat × Int)) : YardSettings where
  debounce := numberOr ps 1 c.debounce
  cyclePeriod := numberOr ps 2 c.cyclePeriod
  answerTimeout := numberOr ps 3 c.answerTimeout
  declaredCv := numberOr ps 4 c.declaredCv
  cvFloor := numberOr ps 5 c.cvFloor
  cvCeiling := numberOr ps 6 c.cvCeiling
  closeMinute := numberOr ps 7 c.closeMinute
  tolerance := numberOr ps 8 c.tolerance
  week := Vector.ofFn fun i => ((given ps (9 + i.val)).map fun v => bandOf v.toNat).getD c.week[i]
  threshold := numberOr ps 16 c.threshold

/-- The fields that take part in a broken rule of the yard record (R178). -/
def YardSettings.brokenFields (c : YardSettings) : List Nat := brokenIf (decide (c.cvFloor < c.cvCeiling)) [5, 6]

/-- The fields of a record that would take part in a broken consistency rule after all pairs are applied (R178). -/
def State.brokenFields (r : RecordRef) (ps : List (Nat × Int)) (s : State) : List Nat :=
  match r with
  | .holder h => ((s.holderCfg h).amended ps).brokenFields (given ps 22)
  | .governor g => ((s.governorCfg g).amended ps).brokenFields ps
  | .district d => s.settings.districtBroken d ((s.districtCfg d).amended ps)
  | .yard => (s.yardCfg.amended ps).brokenFields
  | .valve _ | .order _ | .station _ | .profiles | .alertGroup _ _ => []

/-! ## Use of the record (R21, R43, R54, R178) -/

/-- Whether an outlet is in use, so that it may not be unfitted (R43). -/
def State.outletInUse (h : HolderId) (g : GovernorId) (s : State) : Bool :=
  let x := (s.valve (outletOf h g)).state
  x == .opening || x == .opened || x == .closing ||
    s.book.orders.any (fun o => o.isSendFor g && o.holder == h && !o.isEnded) ||
    (s.governor g).slot == some ⟨h, .automatic⟩

/-- One pair checked against the use of its record (R178). -/
def State.useRefusal (r : RecordRef) (p : Nat × Int) (s : State) : Option RefusalCode :=
  match r with
  | .holder h =>
    if p.1 = 21 ∧ p.2 = 1 ∧ (s.holder h).service = .inUse ∧ s.governorsLed h ≠ [] then some .leadInUse else none
  | .valve v =>
    if p.1 = 4 then
      if (s.valveCfg v).fitted = false then some .notFitted
      else
        match (s.valve v).state with
        | .fault _ => none
        | _ => some .readOnly
    else
      match roleOf v with
      | .outlet h g =>
        if p.1 = 2 ∧ p.2 = 1 ∧ (s.valveCfg v).fitted = true ∧ s.outletInUse h g = true then some .inUse else none
      | .inlet _ => none
  | _ => none

/-- The first pair, in the order given, that the use of the record refuses (R178, log entry 41). -/
def State.firstUseRefusal (r : RecordRef) (s : State) : List (Nat × Int) → Option (RefusalCode × Nat)
  | [] => none
  | p :: ps =>
    match s.useRefusal r p with
    | some c => some (c, p.1)
    | none => State.firstUseRefusal r s ps

/-- Every check of an AMEND in turn (R177, R178): the code and the field of the first that fails, field 0 for none. -/
def State.amendRefusal (r : RecordRef) (ps : List (Nat × Int)) (cut : CutField) (s : State) : Option (RefusalCode × Nat) :=
  match s.firstRefusal r [] ps, cut with
  | some x, _ => some x
  | none, some f => some (.badValue, f)
  | none, none =>
    if ps = [] then some (.badValue, 0)
    else if s.brokenFields r ps ≠ [] then
      some (.badValue, ((ps.map (·.1)).find? fun f => (s.brokenFields r ps).contains f).getD 0)
    else s.firstUseRefusal r ps

/-! ## What each changed field does -/

/-- Writes a holder's configuration. -/
def State.setHolderCfg (s : State) (h : HolderId) (c : HolderSettings) : State :=
  s.setSettings { s.settings with holders := s.settings.holders.set h c }

/-- Writes a valve's configuration. -/
def State.setValveCfg (s : State) (v : ValveId) (c : ValveSettings) : State :=
  s.setSettings { s.settings with valves := s.settings.valves.set v c }

/-- Writes a governor's configuration. -/
def State.setGovernorCfg (s : State) (g : GovernorId) (c : GovernorSettings) : State :=
  s.setSettings { s.settings with governors := s.settings.governors.set g c }

/-- Writes the yard settings. -/
def State.setYardCfg (s : State) (c : YardSettings) : State := s.setSettings { s.settings with yard := c }

/-- Whether the holder's geometry changed: L, or a stroke of lifts 1 to L (R3, R34). -/
def HolderSettings.geometryDiffers (c c' : HolderSettings) : Bool :=
  c.lifts != c'.lifts || (c.fittedLifts.any fun i => c.stroke[i] != c'.stroke[i])

/-- Whether an area or a lift pressure of lifts 1 to L changed (R34). -/
def HolderSettings.contentsDiffer (c c' : HolderSettings) : Bool :=
  c'.fittedLifts.any fun i => c.area[i] != c'.area[i] || c.pressure[i] != c'.pressure[i]

/-- Whether a limit height or the hysteresis changed (R16). -/
def HolderSettings.limitsDiffer (c c' : HolderSettings) : Bool :=
  c.lowStop != c'.lowStop || c.lowWarn != c'.lowWarn || c.highWarn != c'.highWarn || c.highStop != c'.highStop ||
    c.hysteresis != c'.hysteresis

/-- Gauge height and status after an AMEND of a holder (R3, R12). -/
def Holder.gaugeAmended (x : Holder) (height : Option Int) (geometry : Bool) (total : Nat) : Nat × GaugeStatus :=
  match height with
  | some v => (v.toNat, .good)
  | none => if geometry then (min x.height total, .unset) else (x.height, x.status)

/-- The service after an AMEND of a holder (R4). -/
def serviceOr (ps : List (Nat × Int)) (old : Service) : Service :=
  match given ps 21 with
  | none => old
  | some v => if v = 0 then .inUse else .out

/-- An accepted AMEND of a holder (R3, R12, R16, R21, R22, R34): one recomputation for all its pairs. The record holds
every new value, then a going OUT acts, and then the change of stock is handed on. -/
def State.amendHolder (h : HolderId) (ps : List (Nat × Int)) (s : State) : State :=
  let c := s.holderCfg h
  let c' := c.amended ps
  let x := s.holder h
  let geometry := c.geometryDiffers c'
  let gauge := x.gaugeAmended (given ps 22) geometry c'.totalStroke
  let service := serviceOr ps x.service
  let s1 := (s.setHolderCfg h c').setHolder h { x with service := service, height := gauge.1, status := gauge.2 }
  let evaluates := geometry || x.height != gauge.1 || x.status != gauge.2 || c.limitsDiffer c'
  let old := s1.holder h
  let new := if evaluates || c.contentsDiffer c' then s1.recomputedHolder h true evaluates else old
  let s2 := s1.setHolder h new
  let s3 := if x.service = .inUse ∧ service = .out then s2.takeOut h else s2
  if old.handsOn new then s3.handOn h old.limit new.limit else s3

/-- An outlet unfitted or fitted by an AMEND (R43): unfitted it is SHUT with its drives off; fitted it is read from its
switch inputs and, read OPEN, commanded SHUT (R90). -/
def State.fittedChanged (v : ValveId) (s : State) : State :=
  if (s.valveCfg v).fitted then
    let s1 := s.setValve v (s.readValveAt v)
    if (s1.valve v).state = .opened then s1.command v .toShut else s1
  else s.setValve v shutValve

/-- An accepted AMEND of a valve (R42, R43, R54). Fitted YES is 0. -/
def State.amendValve (v : ValveId) (ps : List (Nat × Int)) (s : State) : State :=
  let c := s.valveCfg v
  let c' : ValveSettings := ⟨((given ps 2).map (· == 0)).getD c.fitted, numberOr ps 3 c.travelLimit⟩
  let s1 := s.setValveCfg v c'
  let s2 := if c.fitted ≠ c'.fitted then s1.fittedChanged v else s1
  if (given ps 4).isSome then s2.command v .toShut else s2

/-- The trim after an AMEND: the value given, or the trim clamped to the trim limit (R119). -/
def trimAmended (ps : List (Nat × Int)) (trim : Int) (limit : Nat) : Int :=
  match given ps 23 with
  | some v => v
  | none => clampInt (-limit) limit trim

/-- An accepted AMEND of a governor (R83, R87, R108, R114, R117, R119). A change of automatic changeover to OFF empties the
deferred triggers and clears ceiling retry; a change to ON takes no trigger at the event of the change (log entry 26). Main
loss, maximum setpoint, trim, trim limit and band table entries changed together are recomputed together, and SUPPLY_LIMITED
and ceiling short are judged once (the model's choice: log entry 36). -/
def State.amendGovernor (g : GovernorId) (ps : List (Nat × Int)) (s : State) : State :=
  let c := s.governorCfg g
  let c' := c.amended ps
  let v := s.governor g
  let turnsOff := c.autoChangeover && !c'.autoChangeover
  let trim := if c.trimLimit ≠ c'.trimLimit ∨ (given ps 23).isSome then trimAmended ps v.trim c'.trimLimit else v.trim
  let s1 := (s.setGovernorCfg g c').setGovernor g
    { v with
      trim := trim
      adjustSince := if c.adjustPeriod = c'.adjustPeriod then v.adjustSince else s.now
      deferred := if turnsOff then noTriggers else v.deferred
      retry := v.retry && !turnsOff }
  let s2 := if c.mode ≠ c'.mode ∨ c.balanceBand ≠ c'.balanceBand then s1.recombine g else s1
  if c'.autoChangeover && !c.autoChangeover then s2.refresh g else s2.rejudge g noTriggers

/-- An accepted AMEND of a district (R103, R106, R113). -/
def State.amendDistrict (d : DistrictId) (ps : List (Nat × Int)) (s : State) : State :=
  let c := s.districtCfg d
  let c' := c.amended ps
  let s1 := s.setSettings (s.settings.withDistrict d c')
  let s2 := if c.fMin ≠ c'.fMin ∨ c.band ≠ c'.band then s1.evaluateDistrict d else s1
  if c.governor ≠ c'.governor then (s2.recombine c.governor).recombine c'.governor else s2

/-- An accepted AMEND of a station's maximum credible increment (R125). -/
def State.amendStation (address : Nat) (ps : List (Nat × Int)) (s : State) : State :=
  match s.station address with
  | none => s
  | some st => s.putStation { st with cfg := { st.cfg with maxIncrement := numberOr ps 4 st.cfg.maxIncrement } }

/-- An accepted AMEND of the profile table (R110). -/
def State.amendProfiles (ps : List (Nat × Int)) (s : State) : State :=
  (s.setSettings
    { s.settings with profiles := Vector.ofFn fun i => numberOr ps (1 + i.val) s.settings.profiles[i] }).rebase

/-- Every present mean CV clamped to the range in force (R41). -/
def State.clampMeanCvs (s : State) : State :=
  forEach holderIds (fun h t => t.setHolder h { t.holder h with meanCv := (t.holder h).meanCv.map t.yardCfg.clampCv }) s

/-- The clock after an AMEND of the yard (R155). -/
def Clock.amended (c : Clock) (ps : List (Nat × Int)) (now : Nat) : Clock :=
  { c with
    minute := numberOr ps 20 c.minute
    isSet := flagOr ps 21 (c.isSet || (given ps 20).isSome)
    dayIndex := numberOr ps 22 c.dayIndex
    since := if (given ps 20).isSome then now else c.since }

/-- An accepted AMEND of the yard (R9, R37, R41, R127, R144, R155, R163). The mean CVs are clamped and the bases
recomputed, with what follows from them, before the contacts count that a new debounce time finds steady, as events of their
own (log entries 34 and 35). -/
def State.amendYard (ps : List (Nat × Int)) (s : State) : State :=
  let c := s.yardCfg
  let c' := c.amended ps
  let s1 := (s.setYardCfg c').setClock (s.clock.amended ps s.now)
  let s2 := if c.cvFloor ≠ c'.cvFloor ∨ c.cvCeiling ≠ c'.cvCeiling then s1.clampMeanCvs else s1
  let s3 := if c.cyclePeriod ≠ c'.cyclePeriod then s2.setLine { s2.line with cycleSince := s2.now } else s2
  let s4 := s3.rebase
  if c.debounce ≠ c'.debounce then s4.recountContacts else s4

/-- Whether a bit of the enables is set (R191). -/
def enableBit (mask : Int) (place : Nat) : Bool := mask.toNat / 2 ^ place % 2 == 1

/-- One enable takes a value (R166): OFF removes every pending instance of the kind, ON makes the conditions of the kind
that hold pending, in the order of their items. An enable given the value it holds changes nothing. -/
def State.setEnable (k : CauseKind) (on : Bool) (s : State) : State :=
  if s.enabled k = on then s
  else
    let s1 := s.setSettings { s.settings with enables := s.settings.enables.set k.index on }
    let a := s1.alerts
    if on then s1.setAlerts { a with list := a.list ++ (a.holds.filter fun c => c.kind == k).map s1.arising }
    else s1.setAlerts { a with list := a.list.filter fun p => p.cause.kind != k }

/-- An accepted AMEND of an alert group (R163, R166): the enables act in the order of their kinds. -/
def State.amendGroup (g : GroupId) (ps : List (Nat × Int)) (s : State) : State :=
  let s1 := s.setSettings { s.settings with levels := s.settings.levels.set g (numberOr ps 1 s.settings.levels[g]) }
  match given ps 2 with
  | none => s1
  | some mask => forEach (kindsOf g).zipIdx (fun x t => t.setEnable x.1 (enableBit mask x.2)) s1

/-- An accepted AMEND: every pair applied, and each changed field acting as its rule states (R178). -/
def State.applyAmend (r : RecordRef) (ps : List (Nat × Int)) (s : State) : State :=
  match r with
  | .holder h => s.amendHolder h ps
  | .valve v => s.amendValve v ps
  | .order _ => s
  | .governor g => s.amendGovernor g ps
  | .district d => s.amendDistrict d ps
  | .station a => s.amendStation a ps
  | .profiles => s.amendProfiles ps
  | .yard => s.amendYard ps
  | .alertGroup g _ => s.amendGroup g ps

/-- AMEND (R177, R178). -/
def State.serveAmend (kind key : Nat) (ps : List (Nat × Int)) (cut : CutField) (s : State) : Served :=
  match s.recordOf kind key with
  | .error c => .refused c (some 0)
  | .ok r =>
    match s.amendRefusal r ps cut with
    | some (c, f) => .refused c (some f)
    | none => .done (s.applyAmend r ps) (State.recordContents kind key r)

end Sys2Proof.Machine
end

