-- ==== Sys2Proof/Machine/Starts.lean ====
section
/-! DEFINITION. Starts and power (10.5, 10.6): the loss of mains, the cold and the warm start, and what each block takes
up at either. One start follows the table of R183, block by block. -/

namespace Sys2Proof.Machine

/-! ## Power loss (R181) -/

/-- The image after a write that was cut short (R181). -/
def Store.cutShort (x : Store) : Store :=
  match x.state with
  | .writing _ => { x with image := none }
  | .idle | .failed => x

/-- A valve with its drives off. -/
def Valve.unpowered (v : Valve) : Valve := { v with drive := .off, travel := none }

/-- Mains power is lost (R181): the module goes down, so no drive and no attention output is asserted; a store write is
cut short; the standby clock counts the minutes down from 0. -/
def State.losePower (s : State) : State :=
  ({ s with power := .down, valves := s.valves.map Valve.unpowered }.setStore s.store.cutShort).setClock
    { s.clock with minutesDown := 0 } |>.judgeAttention

/-! ## Control port, inputs and store (R9, R173, R181, R182, R185) -/

/-- The line speed as the strap stands (R173, 11.7). -/
def strapSpeed (made : Bool) : Nat := if made then 19200 else 9600

/-- The port after a start: no frame, no reply, SETTLING, the line speed read from the strap (R173, R185). The silence that
ends SETTLING is timed from the start (log entry 39). -/
def State.startPort (s : State) : State :=
  { s with power := .up, lineSpeed := strapSpeed s.strapMade, port := ⟨.settling, [], none, none, s.now⟩ }

/-- Every contact right after a start: unknown, the level on the input pending (R9). -/
def Contacts.started (cs : Contacts) (now : Nat) : Contacts where
  marks := cs.marks.map fun x => startContact x.raw now
  landed := cs.landed.map fun x => startContact x.raw now
  openSwitches := cs.openSwitches.map fun x => startContact x.raw now
  shutSwitches := cs.shutSwitches.map fun x => startContact x.raw now
  trip := startContact cs.trip.raw now

/-- What is common to both starts before any record is loaded or kept. -/
def State.startInputs (s : State) : State :=
  (s.startPort.setContacts (s.contacts.started s.now)).setStore s.store.cutShort

/-- A station after a cold start (R141). -/
def coldStation (c : StationSettings) : Station := ⟨c, .unheard, 0, none⟩

/-- A station after a warm start (R142). -/
def Station.warmed (st : Station) : Station := { st with link := .unheard, misses := 0 }

/-- The configuration a cold start loads: the image's, or the factory defaults with an empty roster (R182). -/
def Store.loaded (x : Store) : Configuration := x.image.getD ⟨factorySettings, []⟩

/-- The field line after a start (R140 to R142): no call, no cycle, nothing owed, the cycle timer started in full. -/
def startLine (roster : List Station) (now : Nat) : FieldLine := ⟨roster, .idle, 0, false, now⟩

/-! ## What each kind clears or keeps (R5, R31, R32, R81, R142, R160, R171, R182) -/

/-- The records a cold start clears and the configuration it loads, with RESTARTED(COLD) and, of an invalid image,
STORE_INVALID raised. -/
def State.clearForCold (s : State) : State :=
  let c := s.store.loaded
  let t : State :=
    { s with
      settings := c.settings
      holders := s.holders.map fun x => coldHolder x.phases
      conditions := coldConditions
      book := ⟨[], 0⟩
      governors := Vector.replicate 4 (coldGovernor s.now)
      districts := Vector.replicate 6 startDistrict
      accounts := Vector.replicate 6 coldAccount
      yard := coldYardAccount
      clock := ⟨0, false, 0, 0, s.now⟩
      line := startLine (c.roster.map coldStation) s.now
      alerts := ⟨[], [], [], false⟩
      store := ⟨s.store.image, .idle⟩ }
  let t1 := t.raise .restarted (StartKind.item .cold)
  let t2 := if s.store.image.isNone then t1.raise .storeInvalid 0 else t1
  t2.joinEvents

/-- A holder's record at a warm start, before it is recomputed (R5, R32). -/
def Holder.warmed (x : Holder) : Holder := { x with status := x.status.doubted, assumed := true }

/-- A governor's record at a warm start, before its lead and setpoints are found (R102, R124). -/
def Governor.warmed (v : Governor) (now : Nat) : Governor :=
  { v with
    slot := none
    deferred := noTriggers
    retry := false
    request := .hold
    combining := .secure
    notFollowing := 0
    adjustSince := now }

/-- The records a warm start keeps, each as its start rule leaves it, with RESTARTED(WARM) and, of a write cut short,
STORE_FAILED raised. -/
def State.keepForWarm (s : State) : State :=
  let t : State :=
    { s with
      holders := s.holders.map Holder.warmed
      conditions := { s.conditions with barometerAssumed := true }
      governors := s.governors.map fun v => v.warmed s.now
      districts := Vector.replicate 6 startDistrict
      line := startLine (s.line.roster.map Station.warmed) s.now
      alerts := ⟨s.alerts.list.filter fun p => p.cause.kind.isEvent, [], [], false⟩
      store := if s.store.state.isWriting then ⟨s.store.image, .failed⟩ else s.store }
  let t1 := t.raise .restarted (StartKind.item .warm)
  let t2 := if s.store.state.isWriting then t1.raise .storeFailed 0 else t1
  t2.joinEvents

/-! ## Holders (R23, R36) -/

/-- Every holder recomputed at a warm start (R36): no mixing, and the limit condition evaluated from its kept value. -/
def State.recomputeAll (s : State) : State :=
  forEach holderIds (fun h t => t.setHolder h (t.recomputedHolder h false true)) s

/-- A valve commanded SHUT if a reading of the valves finds it OPEN. -/
def State.shutIfRead (s reading : State) (v : ValveId) : State :=
  if (reading.valve v).state = .opened then s.command v .toShut else s

/-- What the stock unit commands for a holder at a start (R17, R18, R23), with the limit condition it had before: every
fitted outlet SHUT at an entry into LOW_STOP, those read OPEN while in LOW_STOP, the inlet at an entry into HIGH_STOP and
if read OPEN. Every inlet read OPEN is commanded SHUT (R185). -/
def State.startCommands (s reading : State) (before : LimitCondition) (h : HolderId) : State :=
  let s1 := s.limitCommands h before (s.holder h).limit
  let s2 :=
    if (s.holder h).limit = .lowStop then forEach governorIds (fun g t => t.shutIfRead reading (outletOf h g)) s1 else s1
  s2.shutIfRead reading (inletOf h)

/-! ## Leads (R101, R102) -/

/-- The open holders of a governor: outlet fitted and read OPEN, IN, not in LOW_STOP (R101). -/
def State.openHolders (s reading : State) (g : GovernorId) : List HolderId :=
  holderIds.filter fun h =>
    (s.valveCfg (outletOf h g)).fitted && (reading.valve (outletOf h g)).state == .opened &&
      (s.holder h).service == .inUse && (s.holder h).limit != .lowStop

/-- The lead recovered from the open holders (R101): the kept lead if it is among them, else the lowest-numbered. -/
def recoveredLead (kept : Option Lead) (openHolders : List HolderId) : Option Lead :=
  match openHolders, kept with
  | [], _ => none
  | h :: _, none => some ⟨h, .start⟩
  | h :: hs, some l => if (h :: hs).contains l.holder then some l else some ⟨h, .start⟩

/-- A governor's lead is recovered, and the valves to it of OUT holders and of the other open holders are commanded
SHUT (R101). -/
def State.recoverLead (reading : State) (g : GovernorId) (s : State) : State :=
  let hs := s.openHolders reading g
  let lead := recoveredLead (s.governor g).lead hs
  let s1 := s.setGovernor g { s.governor g with lead := lead }
  forEach holderIds
    (fun h t =>
      if (s.holder h).service = .out ∨ (hs.contains h = true ∧ lead.map (·.holder) ≠ some h) then
        t.shutIfRead reading (outletOf h g)
      else t) s1

/-! ## Orders (R82) -/

/-- Whether a warm start ends an order INTERRUPTED (R82): QUEUED or running, or LEADING without its lead recovered. -/
def State.interrupts (s : State) (o : Order) : Bool :=
  match o.state, o.kind with
  | .ended _, _ => false
  | .leading, .send g => !s.leads o.holder g
  | _, _ => true

/-! ## The start -/

/-- The missed day close of a warm start (R161). -/
def State.missedClose (s : State) : State :=
  let s1 := if s.clock.closeMissed s.yardCfg.closeMinute then s.dayClose else s
  s1.setClock { s1.clock with minutesDown := 0 }

/-- The conditions found at a start join the list first, and the other events of the start after them (R171). -/
def State.reportStart (s : State) : State :=
  let t := (s.setAlerts { s.alerts with fresh := [] }).report
  t.setAlerts { t.alerts with list := t.alerts.list ++ orderJoining s.alerts.fresh }

/-- The blocks take up their start values, in the order in which they read one another (R183): valves read, holders
recomputed, leads recovered, orders tested, the missed day close, setpoints computed, conditions reported, and the first
cycle started (R142). -/
def State.takeUp (s : State) : State :=
  let reading := s.readValves
  let s1 := reading.recomputeAll
  let s2 := forEach holderIds (fun h t => t.startCommands reading (s.holder h).limit h) s1
  let s3 := forEach governorIds (State.recoverLead reading) s2
  let s4 := s3.endWhere s3.interrupts .interrupted
  let s5 := s4.missedClose
  let s6 := forEach governorIds State.refresh s5
  s6.reportStart.judgeAttention.startCycle

/-- A cold start (R183). -/
def State.coldStart (s : State) : State := s.startInputs.clearForCold.takeUp

/-- A warm start (R183). -/
def State.warmStart (s : State) : State := s.startInputs.keepForWarm.takeUp

/-- The start of a kind (R183). -/
def State.start (k : StartKind) (s : State) : State :=
  match k with
  | .cold => s.coldStart
  | .warm => s.warmStart

/-- The start a RESTART ordered (R184): it has no time down, and reads the strap as it stands (R173). -/
def State.restartNow (k : StartKind) (s : State) : State :=
  (s.setClock { s.clock with minutesDown := 0 }).start k

/-- Mains power returns (R183): the strap is read as it stands, and the retained memory's check decides the kind. A
POWER_ON while the module is up stands for a loss and a return. -/
def State.regainPower (retainedPasses strapMade : Bool) (s : State) : State :=
  let t : State := { (if s.power = .up then s.losePower else s) with strapMade := strapMade }
  t.start (if retainedPasses then .warm else .cold)

end Sys2Proof.Machine
end

