-- ==== Sys2Proof/Machine/ControlLine.lean ====
section
/-! DEFINITION. The control port (10.1, R172 to R174, R189): bytes assembled into frames, frames judged, and bodies read
as requests. -/

namespace Sys2Proof.Machine

/-! ## Bodies read as requests (11.3, R189) -/

/-- A request as a body names it. A cut field is one that the body of an AMEND ends within. -/
inductive HostRequest where
  | read (kind key : Nat)
  | listOrders
  | listRoster
  | amend (kind key : Nat) (pairs : List (Nat × Int)) (cut : CutField)
  | openOrder (r : OpenRequest)
  | cancel (number : Nat)
  | retireOrder (number : Nat)
  | retireStation (address : Nat)
  | enrol (r : EnrolRequest)
  | acknowledge (r : AcknowledgeRequest)
  | summary
  | store
  | restart (k : StartKind)
  | misread (request : Nat) (code : RefusalCode)
  deriving DecidableEq, Repr

/-- The number at a place of a body. -/
def numberAt (body : List Byte) (place width : Nat) : Nat := ofBytes ((body.drop place).take width)

/-- The width of a pair's value: the field's width, and for the last answer of a station its length byte with what it
counts; none where the kind defines no such field (R189, R191). -/
def pairWidth (kind field : Nat) (rest : List Byte) : Option Nat :=
  if kind = 6 ∧ field = 7 then some (1 + ofBytes (rest.take 1)) else fieldWidth kind field

/-- The value a field's bytes spell (R188). -/
def pairValue (kind field : Nat) (bs : List Byte) : Int :=
  if fieldSigned kind field then signedOf bs.length (ofBytes bs) else (ofBytes bs : Int)

/-- The pairs of an AMEND, in order, and the field the body ends within (R189). A field that the kind does not define
ends the reading; its pair is kept, so that it is refused in its turn. -/
def readPairs (kind : Nat) : Nat → List Byte → List (Nat × Int) × CutField
  | 0, _ => ([], none)
  | _, [] => ([], none)
  | n + 1, f :: rest =>
    match pairWidth kind f.toNat rest with
    | none => ([(f.toNat, 0)], none)
    | some w =>
      if rest.length < w then ([], some f.toNat)
      else
        let tail := readPairs kind n (rest.drop w)
        ((f.toNat, pairValue kind f.toNat (rest.take w)) :: tail.1, tail.2)

/-- An OPEN body (R189): its order kind must be 0 or 1 and match the length. A time limit of 0 means none. -/
def readOpen (body : List Byte) : HostRequest :=
  if numberAt body 1 1 = 0 ∧ body.length = 8 then
    .openOrder (.fill (numberAt body 2 1) (numberAt body 3 3)
      (if numberAt body 6 2 = 0 then none else some (numberAt body 6 2)))
  else if numberAt body 1 1 = 1 ∧ body.length = 4 then .openOrder (.send (numberAt body 2 1) (numberAt body 3 1))
  else .misread 5 .badValue

/-- A RETIRE body (R189). -/
def readRetire (body : List Byte) : HostRequest :=
  match numberAt body 1 1 with
  | 0 => .retireOrder (numberAt body 2 2)
  | 1 => .retireStation (numberAt body 2 2)
  | _ => .misread 7 .badValue

/-- An ENROL body. A maximum credible increment of 0 means none given (11.3). -/
def readEnrol (body : List Byte) : HostRequest :=
  .enrol
    { address := numberAt body 1 1
      kind := numberAt body 2 1
      bindingA := numberAt body 3 1
      bindingB := numberAt body 4 1
      maxIncrement := if numberAt body 5 3 = 0 then none else some (numberAt body 5 3) }

/-- An ACKNOWLEDGE body (R189). -/
def readAcknowledge (body : List Byte) : HostRequest :=
  .acknowledge ⟨numberAt body 1 1, if body.length = 5 then some (numberAt body 2 1, numberAt body 3 2) else none⟩

/-- A RESTART body (R189). -/
def readRestart (body : List Byte) : HostRequest :=
  match numberAt body 1 1 with
  | 0 => .restart .cold
  | 1 => .restart .warm
  | _ => .misread 12 .badValue

/-- Whether a body's length suits its request kind (11.3, R174, R189). -/
def lengthSuits (request length : Nat) : Bool :=
  match request with
  | 1 | 7 => length == 4
  | 2 | 3 | 10 | 11 => length == 1
  | 4 => decide (4 ≤ length ∧ length ≤ 200)
  | 5 => length == 8 || length == 4
  | 6 => length == 3
  | 8 => length == 8
  | 9 => length == 2 || length == 5
  | 12 => length == 2
  | _ => true

/-- An AMEND body. -/
def readAmend (body : List Byte) : HostRequest :=
  let kind := numberAt body 1 1
  let pairs := readPairs kind body.length (body.drop 4)
  .amend kind (numberAt body 2 2) pairs.1 pairs.2

/-- The request a good frame's body names, or none if its length does not suit the request kind (R174, R189). -/
def readRequest (body : List Byte) : Option HostRequest :=
  let request := numberAt body 0 1
  if lengthSuits request body.length = false then none
  else
    match request with
    | 1 => some (.read (numberAt body 1 1) (numberAt body 2 2))
    | 2 => some .listOrders
    | 3 => some .listRoster
    | 4 => some (readAmend body)
    | 5 => some (readOpen body)
    | 6 => some (.cancel (numberAt body 1 2))
    | 7 => some (readRetire body)
    | 8 => some (readEnrol body)
    | 9 => some (readAcknowledge body)
    | 10 => some .summary
    | 11 => some .store
    | 12 => some (readRestart body)
    | n => some (.misread n .unknownKind)

/-! ## Requests written as bodies (11.3, R188) -/

/-- A value in the width of a field (R188). -/
def pairBytes (kind field : Nat) (v : Int) : List Byte :=
  beBytes 1 field ++ beInt ((fieldWidth kind field).getD 0) v

/-- The body that names a request (11.3). -/
def HostRequest.body : HostRequest → List Byte
  | .read kind key => beBytes 1 1 ++ beBytes 1 kind ++ beBytes 2 key
  | .listOrders => beBytes 1 2
  | .listRoster => beBytes 1 3
  | .amend kind key pairs cut =>
    beBytes 1 4 ++ beBytes 1 kind ++ beBytes 2 key ++ pairs.flatMap (fun p => pairBytes kind p.1 p.2) ++
      (cut.map (beBytes 1)).getD []
  | .openOrder (.fill h target limit) =>
    beBytes 1 5 ++ beBytes 1 0 ++ beBytes 1 h ++ beBytes 3 target ++ beBytes 2 (limit.getD 0)
  | .openOrder (.send h g) => beBytes 1 5 ++ beBytes 1 1 ++ beBytes 1 h ++ beBytes 1 g
  | .cancel n => beBytes 1 6 ++ beBytes 2 n
  | .retireOrder n => beBytes 1 7 ++ beBytes 1 0 ++ beBytes 2 n
  | .retireStation a => beBytes 1 7 ++ beBytes 1 1 ++ beBytes 2 a
  | .enrol r =>
    beBytes 1 8 ++ beBytes 1 r.address ++ beBytes 1 r.kind ++ beBytes 1 r.bindingA ++ beBytes 1 r.bindingB ++
      beBytes 3 (r.maxIncrement.getD 0)
  | .acknowledge ⟨g, none⟩ => beBytes 1 9 ++ beBytes 1 g
  | .acknowledge ⟨g, some (k, item)⟩ => beBytes 1 9 ++ beBytes 1 g ++ beBytes 1 k ++ beBytes 2 item
  | .summary => beBytes 1 10
  | .store => beBytes 1 11
  | .restart k => beBytes 1 12 ++ beBytes 1 (match k with | .cold => 0 | .warm => 1)
  | .misread request _ => beBytes 1 request

/-! ## Requests taken (R175) -/

/-- A request taken and replied to (R175). -/
def State.serve (r : HostRequest) (s : State) : State :=
  match r with
  | .read kind key => s.respond 1 (s.serveRead kind key)
  | .listOrders => s.respond 2 s.serveListOrders
  | .listRoster => s.respond 3 s.serveListRoster
  | .amend kind key pairs cut => s.respond 4 (s.serveAmend kind key pairs cut)
  | .openOrder r => s.respond 5 (s.serveOpen r)
  | .cancel n => s.respond 6 (s.serveCancel n)
  | .retireOrder n => s.respond 7 (s.serveRetireOrder n)
  | .retireStation a => s.respond 7 (s.serveRetireStation a)
  | .enrol r => s.respond 8 (s.serveEnrol r)
  | .acknowledge r => s.respond 9 (s.serveAcknowledge r)
  | .summary => s.respond 10 s.serveSummary
  | .store => s.respond 11 s.serveStore
  | .restart k => s.respond 12 (s.serveRestart k)
  | .misread request code => s.respond request (.refused code none)

/-! ## The receiver (R173, R174) -/

/-- The port discards what it holds and settles (R173, R174). -/
def State.settling (s : State) : State := s.setPort { s.port with receiver := .settling, frame := [] }

/-- A complete frame is judged (R174): LISTENING for the judgement, then REPLYING to a good frame, or SETTLING. -/
def State.judgeFrame (frame : List Byte) (s : State) : State :=
  let body := (frame.drop 2).take (numberAt frame 1 1)
  if frame.drop (2 + numberAt frame 1 1) ≠ checkBytes body then s.settling
  else
    match readRequest body with
    | none => s.settling
    | some r => (s.setPort { s.port with receiver := .listening, frame := [] }).serve r

/-- Bytes of a frame while ASSEMBLING (R173): the length is tested at its byte, and a complete frame is judged. -/
def State.assembled (frame : List Byte) (s : State) : State :=
  if frame.length = 2 ∧ (numberAt frame 1 1 = 0 ∨ 200 < numberAt frame 1 1) then s.settling
  else if 2 < frame.length ∧ frame.length = numberAt frame 1 1 + 4 then s.judgeFrame frame
  else s.setPort { s.port with receiver := .assembling, frame := frame }

/-- A byte arrives on the control line (R173, R174); it restarts the frame gap. -/
def State.receiveByte (b : Byte) (s : State) : State :=
  let s1 := s.setPort { s.port with quietSince := s.now }
  match s.port.receiver with
  | .listening => if b = startByte then s1.assembled [b] else s1
  | .assembling => s1.assembled (s.port.frame ++ [b])
  | .replying | .settling => s1

/-- The bytes of a frame arrive in turn. -/
def State.receiveBytes (bs : List Byte) (s : State) : State := bs.foldl (fun t b => t.receiveByte b) s

/-- The line has been silent for the frame gap (R173, R174): a partial frame is dropped, and SETTLING is left. -/
def State.lineSilent (s : State) : State :=
  match s.port.receiver with
  | .assembling | .settling => s.setPort { s.port with receiver := .listening, frame := [] }
  | .listening | .replying => s

/-- The last byte of a reply has been sent (R174, R184): the port settles, or the start that a RESTART ordered begins. -/
def State.replyDone (s : State) : State :=
  if s.port.receiver = .replying then
    match s.port.restart with
    | some k => s.restartNow k
    | none => s.setPort { s.port with receiver := .settling, frame := [], reply := none, quietSince := s.now }
  else s

/-! ## The end of a store write (R181) -/

/-- A store write ends (R181). -/
def State.endWrite (checkPasses : Bool) (s : State) : State :=
  match s.store.state with
  | .writing copy =>
    if checkPasses then s.setStore ⟨some copy, .idle⟩ else (s.setStore ⟨none, .failed⟩).raise .storeFailed 0
  | .idle | .failed => s

end Sys2Proof.Machine
end

