-- ==== Sys2Proof/Machine/HostRequests.lean ====
section
/-! DEFINITION. The meanings of the host requests and of the control line's events. A module that is down takes none of
them (log entry 8 says when a request row is taken). -/

namespace Sys2Proof.Machine

/-- What a step of the block answers: a next state, a fault or a refusal. -/
abbrev Answered := Host.Outcome State Fault Refusal

/-- A command that a running module takes; a module that is down takes no notice of it. -/
def State.ifUp (s : State) (t : State) : Answered := .next (if s.power = .up then t else s)

/-- READ (R176). -/
def execRead (kind key : Nat) (s : State) : Answered := s.ifUp (s.respond 1 (s.serveRead kind key))

/-- LIST ORDERS (R58). -/
def execListOrders (s : State) : Answered := s.ifUp (s.respond 2 s.serveListOrders)

/-- LIST ROSTER (R126). -/
def execListRoster (s : State) : Answered := s.ifUp (s.respond 3 s.serveListRoster)

/-- AMEND (R177, R178). -/
def execAmend (kind key : Nat) (pairs : List (Nat × Int)) (s : State) : Answered :=
  s.ifUp (s.respond 4 (s.serveAmend kind key pairs none))

/-- OPEN (R59, R60). -/
def execOpen (r : OpenRequest) (s : State) : Answered := s.ifUp (s.respond 5 (s.serveOpen r))

/-- CANCEL (R74, R75). -/
def execCancel (number : Nat) (s : State) : Answered := s.ifUp (s.respond 6 (s.serveCancel number))

/-- RETIRE of an order (R76). -/
def execRetireOrder (number : Nat) (s : State) : Answered := s.ifUp (s.respond 7 (s.serveRetireOrder number))

/-- RETIRE of a station (R129). -/
def execRetireStation (address : Nat) (s : State) : Answered := s.ifUp (s.respond 7 (s.serveRetireStation address))

/-- ENROL (R128). -/
def execEnrol (r : EnrolRequest) (s : State) : Answered := s.ifUp (s.respond 8 (s.serveEnrol r))

/-- ACKNOWLEDGE (R167). -/
def execAcknowledge (r : AcknowledgeRequest) (s : State) : Answered := s.ifUp (s.respond 9 (s.serveAcknowledge r))

/-- SUMMARY (R170). -/
def execSummary (s : State) : Answered := s.ifUp (s.respond 10 s.serveSummary)

/-- STORE (R180). -/
def execStore (s : State) : Answered := s.ifUp (s.respond 11 s.serveStore)

/-- RESTART (R184). -/
def execRestart (kind : StartKind) (s : State) : Answered := s.ifUp (s.respond 12 (s.serveRestart kind))

/-- CONTROL_FRAME_RECEIVED (R173, R174): the bytes of a frame arrive and its last byte judges it. -/
def execControlFrameReceived (bytes : List Byte) (s : State) : Answered := s.ifUp (s.receiveBytes bytes)

/-- FRAME_GAP_SILENCE (R173, R174). -/
def execFrameGapSilence (s : State) : Answered := s.ifUp s.lineSilent

/-- REPLY_SENT (R174, R184). -/
def execReplySent (s : State) : Answered := s.ifUp s.replyDone

/-- CONTROL_LINE_BYTE (R173). -/
def execControlLineByte (b : Byte) (s : State) : Answered := s.ifUp (s.receiveByte b)

end Sys2Proof.Machine
end

