-- ==== Sys2Proof/Machine/FieldEvents.lean ====
section
/-! DEFINITION. The meanings of the field line's events (chapter 7). -/

namespace Sys2Proof.Machine

/-- CYCLE_TIMER_EXPIRY (R130). -/
def execCycleTimerExpiry (s : State) : Answered := s.ifUp s.cycleExpires.settle

/-- The gap after a call ends (R131). -/
def State.gapEnds (s : State) : State :=
  match s.line.activity with
  | .gap _ => s.callNext
  | _ => s

/-- GAP_END (R131). -/
def execGapEnd (s : State) : Answered := s.ifUp s.gapEnds

/-- CALL_SENT (R132). -/
def execCallSent (s : State) : Answered := s.ifUp s.callSent

/-- ANSWER_RECEIVED (R132, R133, R135). -/
def execAnswerReceived (bytes : List Byte) (s : State) : Answered := s.ifUp (s.answerReceived bytes).settle

/-- ANSWER_TIMEOUT (R132, R134). -/
def execAnswerTimeout (s : State) : Answered := s.ifUp s.answerTimeout.settle

end Sys2Proof.Machine
end

