-- ==== Sys2Proof/Machine/PowerEvents.lean ====
section
/-! DEFINITION. The meanings of the store's and the mains supply's events (10.5, 10.6). -/

namespace Sys2Proof.Machine

/-- STORE_WRITE_END (R181). -/
def execStoreWriteEnd (checkPasses : Bool) (s : State) : Answered := s.ifUp (s.endWrite checkPasses).settle

/-- POWER_ON (R183). -/
def execPowerOn (retainedPasses strapMade : Bool) (s : State) : Answered := .next (s.regainPower retainedPasses strapMade)

/-- POWER_LOSS (R181); a module already down takes no notice of it. -/
def execPowerLoss (s : State) : Answered := s.ifUp s.losePower

end Sys2Proof.Machine
end

