-- ==== Sys2Proof/Machine/YardEvents.lean ====
section
/-! DEFINITION. The meanings of the yard wiring's events and of the yard's timers. What the inputs do while the module
is down is held, since a start reads them (R6, R9, R55). -/

namespace Sys2Proof.Machine

/-- ENCODER_STEP (R6 to R8). Encoders are not decoded while the module is down (R5); the pair on the inputs is held. -/
def execEncoderStep (h : HolderId) (p : PhasePair) (s : State) : Answered :=
  .next (if s.power = .up then (s.encoderStep h p).settle else s.setHolder h { s.holder h with phases := p })

/-- The raw level of an input changes. A contact starts or drops its pending change (R9); in a module that is down it is
only held. The strap is held, up or down, for the next start (R173, log entry 21). -/
def State.rawChange (i : RawInput) (l : Level) (s : State) : State :=
  match i with
  | .contact c =>
    if s.power = .up then s.setContact c ((s.contact c).rawChanged l s.now)
    else s.setContact c { s.contact c with raw := l }
  | .strap => { s with strapMade := l == .closed }

/-- CONTACT_RAW_CHANGE (R9, R173). -/
def execContactRawChange (i : RawInput) (l : Level) (s : State) : Answered := .next (s.rawChange i l)

/-- DEBOUNCE_EXPIRY (R9). -/
def execDebounceExpiry (c : ContactId) (s : State) : Answered := s.ifUp (s.countContact c).settle

/-- A travel timer expires (R48): a valve still in motion enters FAULT with reason TRAVEL. -/
def State.travelExpires (v : ValveId) (s : State) : State :=
  if (s.valve v).travelling then s.faultValve v .travel else s

/-- TRAVEL_TIMER_EXPIRY (R48). -/
def execTravelTimerExpiry (v : ValveId) (s : State) : Answered := s.ifUp (s.travelExpires v).settle

/-- A time limit expires (R68): a FILL in FILLING with its timer running ends TIMED_OUT, its inlet commanded SHUT. -/
def State.limitExpires (number : Nat) (s : State) : State :=
  match s.order number with
  | some o => if o.state = .filling ∧ o.limitTimer.isSome = true then s.stopFill o .timedOut else s
  | none => s

/-- TIME_LIMIT_EXPIRY (R68). -/
def execTimeLimitExpiry (number : Nat) (s : State) : Answered := s.ifUp (s.limitExpires number).settle

/-- An adjust timer expires (R117): the trim step and the silent retry take the one expiry. Where a retry is due before
or after the step, which of the two goes first is the free value Config.retryFirst. A retry that goes first and completes
at once has changed the lead at this event, so the step behind it takes no CEILING trigger (R93). -/
def State.adjustExpires (g : GovernorId) (s : State) : State :=
  let s0 := s.setGovernor g { s.governor g with adjustSince := s.now }
  let stepped := s0.trimStep g true
  if s0.retryDue g || stepped.retryDue g then
    let t : State := { s0 with choices := s0.choices + 1 }
    if Config.retryFirst s0.choices then
      let u := t.silentRetry g
      u.trimStep g ((u.governor g).lead == (t.governor g).lead)
    else (t.trimStep g true).silentRetry g
  else stepped

/-- ADJUST_TIMER_EXPIRY (R96, R117, R118). -/
def execAdjustTimerExpiry (g : GovernorId) (s : State) : Answered := s.ifUp (s.adjustExpires g).settle

/-- CLOCK_ADVANCE (R154, R161): with mains on the clock advances whole; with mains off it runs on the standby supply. -/
def execClockAdvance (s : State) : Answered :=
  .next (if s.power = .up then s.advanceClock.settle else s.advanceStandby)

end Sys2Proof.Machine
end

