-- ==== Sys2Proof/Machine/Ticks.lean ====
section
/-! DEFINITION. The module's own timers (00_scope.md): which expiry is due at a moment. An empty queue takes the first
that is due, in the order given here, or lets one millisecond pass (log entry 3). -/

namespace Sys2Proof.Machine

/-- Whether a time has passed since a moment. -/
def State.elapsed (s : State) (since time : Nat) : Bool := decide (since + time ≤ s.now)

/-- The contacts whose pending change has been steady for the debounce time (R9). -/
def State.dueContact (s : State) : Option Instr :=
  (contactIds.find? (s.debounceDue s.yardCfg.debounce)).map .debounceExpiry

/-- A travelling valve whose travel limit has passed (R48). -/
def State.dueTravel (s : State) : Option Instr :=
  (valveIds.find? fun v => (s.valve v).travel.any fun t => s.elapsed t.since (t.limit * 1000)).map .travelTimerExpiry

/-- Whether an order's time limit has passed (R66, R68). -/
def State.limitPassed (s : State) (o : Order) : Bool :=
  match o.kind, o.limitTimer with
  | .fill _ (some minutes), some since => s.elapsed since (minutes * Config.minuteMs)
  | _, _ => false

/-- A FILL whose time limit has passed (R68). -/
def State.dueLimit (s : State) : Option Instr :=
  (s.book.orders.find? s.limitPassed).map fun o => .timeLimitExpiry o.number

/-- A governor whose adjust period has passed (R117). -/
def State.dueAdjust (s : State) : Option Instr :=
  (governorIds.find? fun g => s.elapsed (s.governor g).adjustSince ((s.governorCfg g).adjustPeriod * 1000)).map
    .adjustTimerExpiry

/-- The yard clock's next minute (R154, R161). -/
def State.dueClock (s : State) : Option Instr :=
  if s.elapsed s.clock.since Config.minuteMs then some .clockAdvance else none

/-- The cycle timer (R130). -/
def State.dueCycle (s : State) : Option Instr :=
  if s.elapsed s.line.cycleSince (s.yardCfg.cyclePeriod * 1000) then some .cycleTimerExpiry else none

/-- The gap or the answer timeout of the field line (R131, R132). -/
def State.dueLine (s : State) : Option Instr :=
  match s.line.activity with
  | .gap since => if s.elapsed since Config.callGapMs then some .gapEnd else none
  | .waiting c since => if s.elapsed since c.timeout then some .answerTimeout else none
  | .idle | .sending _ => none

/-- The frame gap of the control line (R173, R174). -/
def State.dueSilence (s : State) : Option Instr :=
  match s.port.receiver with
  | .assembling | .settling => if s.elapsed s.port.quietSince Config.frameGapMs then some .frameGapSilence else none
  | .listening | .replying => none

/-- The expiry an empty queue takes: while the module is down, the standby clock's alone. -/
def State.dueCommand (s : State) : Option Instr :=
  match s.power with
  | .down => s.dueClock
  | .up =>
    s.dueContact <|> s.dueTravel <|> s.dueLimit <|> s.dueAdjust <|> s.dueClock <|> s.dueCycle <|> s.dueLine <|> s.dueSilence

/-- One millisecond passes. -/
def State.tick (s : State) : State := { s with now := s.now + 1 }

end Sys2Proof.Machine
end

