-- ==== Sys2Proof/Machine/Dispatch.lean ====
section
/-! DEFINITION. One arm for each command: its meaning, called directly. -/

namespace Sys2Proof.Machine

def exec (i : Instr) (s : State) : Host.Outcome State Fault Refusal :=
  match i with
  | .read kind key => Sys2Proof.Machine.execRead kind key s
  | .listOrders => Sys2Proof.Machine.execListOrders s
  | .listRoster => Sys2Proof.Machine.execListRoster s
  | .amend kind key pairs => Sys2Proof.Machine.execAmend kind key pairs s
  | .openOrder r => Sys2Proof.Machine.execOpen r s
  | .cancel number => Sys2Proof.Machine.execCancel number s
  | .retireOrder number => Sys2Proof.Machine.execRetireOrder number s
  | .retireStation address => Sys2Proof.Machine.execRetireStation address s
  | .enrol r => Sys2Proof.Machine.execEnrol r s
  | .acknowledge r => Sys2Proof.Machine.execAcknowledge r s
  | .summary => Sys2Proof.Machine.execSummary s
  | .store => Sys2Proof.Machine.execStore s
  | .restart kind => Sys2Proof.Machine.execRestart kind s
  | .controlFrameReceived bytes => Sys2Proof.Machine.execControlFrameReceived bytes s
  | .frameGapSilence => Sys2Proof.Machine.execFrameGapSilence s
  | .replySent => Sys2Proof.Machine.execReplySent s
  | .storeWriteEnd checkPasses => Sys2Proof.Machine.execStoreWriteEnd checkPasses s
  | .powerOn retainedPasses strapMade => Sys2Proof.Machine.execPowerOn retainedPasses strapMade s
  | .encoderStep h p => Sys2Proof.Machine.execEncoderStep h p s
  | .contactRawChange c l => Sys2Proof.Machine.execContactRawChange c l s
  | .debounceExpiry c => Sys2Proof.Machine.execDebounceExpiry c s
  | .travelTimerExpiry v => Sys2Proof.Machine.execTravelTimerExpiry v s
  | .timeLimitExpiry number => Sys2Proof.Machine.execTimeLimitExpiry number s
  | .adjustTimerExpiry g => Sys2Proof.Machine.execAdjustTimerExpiry g s
  | .clockAdvance => Sys2Proof.Machine.execClockAdvance s
  | .cycleTimerExpiry => Sys2Proof.Machine.execCycleTimerExpiry s
  | .gapEnd => Sys2Proof.Machine.execGapEnd s
  | .callSent => Sys2Proof.Machine.execCallSent s
  | .answerReceived bytes => Sys2Proof.Machine.execAnswerReceived bytes s
  | .answerTimeout => Sys2Proof.Machine.execAnswerTimeout s
  | .controlLineByte b => Sys2Proof.Machine.execControlLineByte b s
  | .powerLoss => Sys2Proof.Machine.execPowerLoss s

end Sys2Proof.Machine
end

