-- ==== Sys2Proof/Safety.lean ====
section
/-! DEFINITION. What holds of a sound yard: the invariants that the rules state in their own words, each a property of a
state that every step keeps. -/

namespace Sys2Proof.Machine

/-! ## Answers -/

/-- A command answers a next state, and the next state has a property. -/
def Answers (c : Instr) (s : State) (P : State → Prop) : Prop := ∃ t, exec c s = .next t ∧ P t

/-- Whether an instance with a cause is pending. -/
def State.isPending (s : State) (k : CauseKind) (item : Nat) : Prop := ∃ p ∈ s.alerts.list, p.cause = ⟨k, item⟩

/-! ## Configurations the module can hold -/

/-- The configurations a state holds: the one in use, the image's, and the one being written. -/
def State.configurations (s : State) : List Configuration :=
  s.configuration :: s.store.image.toList ++
    match s.store.state with
    | .writing c => [c]
    | .idle | .failed => []

/-- A holder's configuration keeps the ranges of R1 and the rules of R2. -/
structure HolderSettings.Sound (c : HolderSettings) : Prop where
  lifts : 1 ≤ c.lifts ∧ c.lifts ≤ 4
  areas : ∀ i : Fin 4, 100 ≤ c.area[i] ∧ c.area[i] ≤ 4000
  strokes : ∀ i : Fin 4, 1000 ≤ c.stroke[i] ∧ c.stroke[i] ≤ 12000
  total : c.totalStroke ≤ 40000
  pressures : ∀ i j : Fin 4, i ≤ j → j.val < c.lifts → c.pressure[i] ≤ c.pressure[j]
  limits : 0 < c.lowStop ∧ c.lowStop < c.lowWarn ∧ c.lowWarn < c.highWarn ∧ c.highWarn < c.highStop ∧ c.highStop ≤ c.totalStroke
  gap : c.lowStop + 2 * c.hysteresis < c.highStop

/-- A governor's configuration keeps the rules of R83 and R108. -/
structure GovernorSettings.Sound (c : GovernorSettings) : Prop where
  setpoints : c.minSetpoint ≤ c.maxSetpoint
  standby : c.standby.length ≤ 3 ∧ c.standby.Nodup

/-- The settings keep every rule of R178: those of each holder (R2) and governor (R83, R108), at most two districts for
each governor (R103), the CV floor below the CV ceiling, and the four inlets fitted (R42). -/
structure Settings.Sound (c : Settings) : Prop where
  holders : ∀ h : HolderId, c.holders[h].Sound
  governors : ∀ g : GovernorId, c.governors[g].Sound
  served : ∀ g : GovernorId, (c.served g).length ≤ 2
  cvs : c.yard.cvFloor < c.yard.cvCeiling
  inlets : ∀ h : HolderId, c.valves[inletOf h].fitted = true

/-- Every configuration a state holds keeps every rule of R178. -/
def State.ConfigurationsSound (s : State) : Prop := ∀ c ∈ s.configurations, c.settings.Sound

/-! ## The order book (R57, R61) -/

/-- The states of R56 suit the kind of an order: OPENING and FILLING are a FILL's, CHANGING and LEADING a SEND's, and a
limit timer runs only for a FILL in FILLING (R56, R66). -/
def Order.stateSuits (o : Order) : Bool :=
  (match o.state with
    | .opening | .filling => o.isFill
    | .changing | .leading => !o.isFill
    | .queued | .ended _ => true) &&
  (o.limitTimer.isNone || o.state == .filling)

/-- The book holds at most 16 records, no two with one number, each numbered 1 to 9,999 (R57), each in a state of its
kind (R56). -/
structure State.BookSound (s : State) : Prop where
  count : s.book.orders.length ≤ 16
  distinct : (s.book.orders.map (·.number)).Nodup
  range : ∀ o ∈ s.book.orders, 1 ≤ o.number ∧ o.number ≤ 9999
  lastIssued : s.book.lastIssued ≤ 9999
  suits : ∀ o ∈ s.book.orders, o.stateSuits = true

/-- Of two FILL orders on one holder that are not ENDED, the one opened later is QUEUED (R61). -/
def State.FillsWait (s : State) : Prop :=
  s.book.orders.Pairwise fun earlier later =>
    earlier.isFill = true → later.isFill = true → earlier.holder = later.holder →
      earlier.isEnded = false → later.isEnded = false → later.state = .queued

/-! ## The roster (R126) -/

/-- The limits of the roster: at most 32 stations, addresses 1 to 254 and distinct, one station for each kind and
binding (R126). -/
structure RosterSound (roster : List StationSettings) : Prop where
  count : roster.length ≤ 32
  addresses : (roster.map (·.address)).Nodup
  range : ∀ c ∈ roster, 1 ≤ c.address ∧ c.address ≤ 254
  kinds : (roster.map (·.kind)).Nodup

/-- Every roster a state holds keeps the limits of R126. -/
def State.RostersSound (s : State) : Prop := ∀ c ∈ s.configurations, RosterSound c.roster

/-! ## Gauges and stock (R13) -/

/-- Stock is present exactly while the status is GOOD or DOUBTFUL, and the gauge height lies within 0 to T (R13). -/
def State.GaugesSound (s : State) : Prop :=
  ∀ h : HolderId,
    ((s.holder h).stock.isSome = true ↔ (s.holder h).status = .good ∨ (s.holder h).status = .doubtful) ∧
      (s.holder h).height ≤ (s.holderCfg h).totalStroke

/-- Every holder's stock, floating lift count and pressure are those that its height, its gauge status and the conditions
in use give (R13, R24, R25, R29). -/
def State.StocksDerived (s : State) : Prop :=
  ∀ h : HolderId,
    ((s.holder h).stock = if (s.holder h).status = .good ∨ (s.holder h).status = .doubtful then
        some (standardVolume ((s.holderCfg h).volume (s.holder h).height) (s.holder h).pressure (s.holder h).gasTemp
          s.conditions.barometer)
      else none) ∧
    (s.holder h).floating = (s.holderCfg h).floatingAt (s.holder h).height ∧
    (s.holder h).pressure = (s.holderCfg h).pressureAt (s.holder h).floating

/-! ## Calorific values (R41) -/

/-- Every present holder CV lies between the CV floor and the CV ceiling (R41). -/
def State.CvsSound (s : State) : Prop :=
  ∀ (h : HolderId) (cv : Nat), (s.holder h).meanCv = some cv → s.yardCfg.cvFloor ≤ cv ∧ cv ≤ s.yardCfg.cvCeiling

/-! ## Valves (R43, R44) -/

/-- The drive a valve state asserts (R44). -/
def ValveState.drive : ValveState → Drive
  | .opening => .toOpen
  | .closing => .toShut
  | .shut | .opened | .fault _ => .off

/-- A valve's drive follows its state, a travel runs exactly while it moves, and an unfitted valve is SHUT (R43, R44). -/
structure Valve.Sound (v : Valve) (fitted : Bool) : Prop where
  drive : v.drive = v.state.drive
  travel : v.travel.isSome = true ↔ v.state = .opening ∨ v.state = .closing
  unfitted : fitted = false → v.state = .shut

/-- While the module is up every valve is sound; while it is down no drive is asserted and no travel runs. -/
def State.ValvesSound (s : State) : Prop :=
  ∀ v : ValveId,
    match s.power with
    | .up => (s.valve v).Sound (s.valveCfg v).fitted
    | .down => (s.valve v).drive = .off ∧ (s.valve v).travel = none

/-! ## Setpoints (R118) -/

/-- Every governor's commanded setpoint lies between its minimum and maximum setpoints, and its trim lies within plus or
minus its trim limit (R118). -/
structure State.SetpointsSound (s : State) : Prop where
  commanded : ∀ g : GovernorId,
    (s.governorCfg g).minSetpoint ≤ (s.governor g).commanded ∧ (s.governor g).commanded ≤ (s.governorCfg g).maxSetpoint
  trim : ∀ g : GovernorId, (s.governor g).trim.natAbs ≤ (s.governorCfg g).trimLimit

/-! ## What a governor's fields are derived from (R86, R87, R93, R114, R115) -/

/-- A governor's supply status, ceiling, ceiling short, base, desired and commanded setpoints as their rules derive them
from its lead, its trim, its settings and the clock (R86, R87, R93, R114, R115). -/
structure State.GovernorDerived (s : State) (g : GovernorId) : Prop where
  unfed : (s.governor g).lead = none → (s.governor g).status = .unfed
  status : ∀ l, (s.governor g).lead = some l →
    (s.governor g).status = if (s.holder l.holder).stock.isSome then .fed else .blind
  ceiling : ∀ l, (s.governor g).lead = some l → (s.governor g).status = .fed →
    (s.governor g).ceiling = some ((s.holder l.holder).pressure - (s.governorCfg g).mainLoss)
  noCeiling : (s.governor g).status ≠ .fed → (s.governor g).ceiling = none
  base : (s.governor g).base = s.baseOf g
  desired : (s.governor g).desired = (s.governor g).base + (s.governor g).trim
  short : (s.governor g).short = true ↔ ∃ c, (s.governor g).ceiling = some c ∧ c < (s.governor g).desired
  commanded : ((s.governor g).commanded : Int) =
    max (match (s.governor g).ceiling with
      | some c => min (min (s.governor g).desired ((s.governorCfg g).maxSetpoint : Int)) c
      | none => min (s.governor g).desired ((s.governorCfg g).maxSetpoint : Int)) ((s.governorCfg g).minSetpoint : Int)

/-- While the module is up every governor's fields are as their rules derive them. -/
def State.GovernorsDerived (s : State) : Prop := s.power = .up → ∀ g : GovernorId, s.GovernorDerived g

/-! ## Accounts (R151) -/

/-- A volume and an energy within their limits: the remainder between 0 and 999 kJ, each figure at most 999,999,999 (R151). -/
def figureSound (volume : Nat) (e : Energy) : Prop := volume ≤ 999999999 ∧ e.mj ≤ 999999999 ∧ e.kj ≤ 999

/-- Every district's and the yard's figures are within their limits (R151, R153). -/
structure State.FiguresSound (s : State) : Prop where
  today : ∀ d : DistrictId, figureSound (s.account d).today.volume (s.account d).today.energy
  yesterday : ∀ d : DistrictId, figureSound (s.account d).yesterday.volume (s.account d).yesterday.energy
  makeIn : figureSound s.yard.makeVolume s.yard.makeEnergy
  closed : ∀ c, s.yard.closedDay = some c →
    figureSound c.makeVolume c.makeEnergy ∧ figureSound c.sendVolume c.sendEnergy

/-! ## Misses and links (R134) -/

/-- A station is LOST exactly when its miss count is at least 3, and no miss count passes 255 (R134). -/
def State.LinksSound (s : State) : Prop :=
  ∀ st ∈ s.line.roster, (st.link = .lost ↔ 3 ≤ st.misses) ∧ st.misses ≤ 255

/-! ## Alerts (R164, R165, R169) -/

/-- Between steps: no two pending instances carry one cause (R164); each is of an enabled kind (R163, R166); a pending
condition holds (R165); an event's count is 1 to 255 and an event is never acknowledged (R164); the conditions
held are those that hold, and each of an enabled kind is pending (R165); and the attention output is asserted exactly as
R169 says. -/
structure State.AlertsSound (s : State) : Prop where
  distinct : (s.alerts.list.map (·.cause)).Nodup
  enabled : ∀ p ∈ s.alerts.list, s.enabled p.cause.kind = true
  conditions : ∀ p ∈ s.alerts.list, p.cause.kind.isEvent = false → p.cause ∈ s.alerts.holds
  events : ∀ p ∈ s.alerts.list, p.cause.kind.isEvent = true → (1 ≤ p.count ∧ p.count ≤ 255 ∧ p.acknowledged = false)
  holding : s.alerts.holds.Nodup ∧ ∀ c ∈ s.alerts.holds, c.kind.isEvent = false
  fresh : s.alerts.fresh = []
  reported : s.alerts.holds = s.conditionsHolding
  pending : ∀ c ∈ s.alerts.holds, s.enabled c.kind = true → ∃ p ∈ s.alerts.list, p.cause = c
  attention : s.alerts.attention = s.attentionDue

/-! ## Inlets and fills (R20, R69, R78) -/

/-- An inlet that is OPENING or OPEN has a running FILL behind it, on a holder that is IN and not in HIGH_STOP, with the
yard trip not active (R20, R69, R78); a FILL in OPENING has its inlet OPENING, and one in FILLING has it OPEN. -/
structure State.InletSafe (s : State) (h : HolderId) : Prop where
  behind : (s.valve (inletOf h)).state = .opening ∨ (s.valve (inletOf h)).state = .opened →
    (s.holder h).service = .inUse ∧ (s.holder h).limit ≠ .highStop ∧ s.trip ≠ .active ∧
      ∃ o ∈ s.book.orders, o.holder = h ∧ o.isRunningFill = true
  running : ∀ o ∈ s.book.orders, o.holder = h → o.isFill = true →
    (o.state = .opening → (s.valve (inletOf h)).state = .opening) ∧
      (o.state = .filling → (s.valve (inletOf h)).state = .opened)

/-- While the module is up every inlet is safe. -/
def State.InletsSafe (s : State) : Prop := s.power = .up → ∀ h : HolderId, s.InletSafe h

/-! ## Outlets, leads and changeovers (R17, R61, R73, R85, R90, R91) -/

/-- The pair of a holder and a governor: the lead's outlet is OPEN, and the lead is IN and not in LOW_STOP (R17, R85);
an OPEN outlet is a lead's (R90); an outlet is OPENING exactly while a changeover on it is in flight, to a holder that is
IN, not in LOW_STOP and whose stock is present (R72, R91, R97). -/
structure State.OutletSafe (s : State) (h : HolderId) (g : GovernorId) : Prop where
  lead : s.leads h g = true →
    (s.valve (outletOf h g)).state = .opened ∧ (s.holder h).limit ≠ .lowStop ∧ (s.holder h).service = .inUse
  opened : (s.valve (outletOf h g)).state = .opened → s.leads h g = true
  opening : (s.valve (outletOf h g)).state = .opening ↔ s.changingTo h g = true
  changing : s.changingTo h g = true →
    (s.holder h).limit ≠ .lowStop ∧ (s.holder h).service = .inUse ∧ (s.holder h).stock.isSome = true

/-- The SEND orders of a governor: a SEND in CHANGING holds the slot and a slot held by an order has it in CHANGING (R91);
a LEADING order names the lead (R73); a live SEND names a fitted outlet (R43). -/
structure State.SendsSound (s : State) (g : GovernorId) : Prop where
  changing : ∀ o ∈ s.book.orders, o.isSendFor g = true → o.state = .changing →
    (s.governor g).slot = some ⟨o.holder, .order o.number⟩
  slot : ∀ (h : HolderId) (n : Nat), (s.governor g).slot = some ⟨h, .order n⟩ →
    ∃ o ∈ s.book.orders, o.number = n ∧ o.isSendFor g = true ∧ o.holder = h ∧ o.state = .changing
  leading : ∀ o ∈ s.book.orders, o.isSendFor g = true → o.state = .leading → s.leads o.holder g = true
  fitted : ∀ o ∈ s.book.orders, o.isSendFor g = true → o.isEnded = false → (s.valveCfg (outletOf o.holder g)).fitted = true

/-- Each governor has at most one LEADING order (R73). -/
def State.OneLeading (s : State) (g : GovernorId) : Prop :=
  s.book.orders.Pairwise fun o p =>
    o.isSendFor g = true → p.isSendFor g = true → o.state = .leading → p.state ≠ .leading

/-- Each governor has at most one LEADING order, and while the module is up every outlet is safe and every governor's
SEND orders are sound. -/
def State.OutletsSafe (s : State) : Prop :=
  (∀ g : GovernorId, s.OneLeading g) ∧
    (s.power = .up → ∀ g : GovernorId, s.SendsSound g ∧ ∀ h : HolderId, s.OutletSafe h g)

/-! ## The first cycle of a start -/

/-- The field line as the first cycle of a start leaves it (R131, R142): with an empty roster the cycle has ended at once, and
otherwise the station at place 1 is being called. The call carries what is in force when it is made: the answer timeout and,
to a governor station, the commanded setpoint (R121, R127, R132). -/
def State.FirstCycle (s : State) : Prop :=
  match s.line.roster with
  | [] => s.line.activity = .idle ∧ s.line.position = 0
  | st :: _ =>
    s.line.position = 1 ∧
      s.line.activity = .sending
        { address := st.cfg.address
          kind := st.cfg.kind
          carried := match st.cfg.kind with
            | .governor g => some (s.governor g).commanded
            | _ => none
          discarded := false
          timeout := s.yardCfg.answerTimeout }

/-! ## What a command may change -/

/-- The records of the state, by the unit that owns them. power stands for mains, strap and line speed. -/
inductive Part where
  | power
  | settings
  | holders
  | contacts
  | conditions
  | valves
  | book
  | governors
  | districts
  | accounts
  | yard
  | clock
  | line
  | alerts
  | port
  | store
  | choices
  deriving DecidableEq, Repr

/-- Whether two states hold the same records of a part. -/
def State.Agrees (s t : State) : Part → Prop
  | .power => t.power = s.power ∧ t.strapMade = s.strapMade ∧ t.lineSpeed = s.lineSpeed
  | .settings => t.settings = s.settings
  | .holders => t.holders = s.holders
  | .contacts => t.contacts = s.contacts
  | .conditions => t.conditions = s.conditions
  | .valves => t.valves = s.valves
  | .book => t.book = s.book
  | .governors => t.governors = s.governors
  | .districts => t.districts = s.districts
  | .accounts => t.accounts = s.accounts
  | .yard => t.yard = s.yard
  | .clock => t.clock = s.clock
  | .line => t.line = s.line
  | .alerts => t.alerts = s.alerts
  | .port => t.port = s.port
  | .store => t.store = s.store
  | .choices => t.choices = s.choices

/-- Whether a command's rules let it change a part. A frame may carry any request, and a reply sent may begin a start, so
those two and a power-on may change every part. -/
def commandMayChange (c : Instr) (p : Part) : Bool :=
  match c with
  | .read _ _ | .listOrders | .listRoster | .summary | .frameGapSilence => p == .port
  | .amend _ _ _ => [.settings, .holders, .contacts, .valves, .book, .governors, .districts, .clock, .line, .alerts, .port].contains p
  | .openOrder _ | .cancel _ => [.valves, .book, .governors, .alerts, .port].contains p
  | .retireOrder _ => [.book, .alerts, .port].contains p
  | .retireStation _ => [.line, .holders, .conditions, .governors, .accounts, .yard, .districts, .alerts, .port].contains p
  | .enrol _ => [.line, .yard, .governors, .accounts, .districts, .alerts, .port].contains p
  | .acknowledge _ | .restart _ => [.alerts, .port].contains p
  | .store => [.store, .alerts, .port].contains p
  | .storeWriteEnd _ => [.store, .alerts].contains p
  | .encoderStep _ _ => [.holders, .valves, .book, .governors, .alerts].contains p
  | .contactRawChange (.contact _) _ => p == .contacts
  | .contactRawChange .strap _ => p == .power
  | .debounceExpiry _ => [.contacts, .holders, .valves, .book, .governors, .alerts].contains p
  | .travelTimerExpiry _ => [.valves, .book, .governors, .alerts].contains p
  | .timeLimitExpiry _ => [.valves, .book, .alerts].contains p
  | .adjustTimerExpiry _ => [.governors, .valves, .book, .alerts, .choices].contains p
  | .clockAdvance => [.clock, .accounts, .yard, .governors, .valves, .book, .alerts].contains p
  | .cycleTimerExpiry => [.line, .alerts].contains p
  | .gapEnd | .callSent => p == .line
  | .answerReceived _ =>
    [.line, .holders, .conditions, .valves, .book, .governors, .districts, .accounts, .yard, .alerts].contains p
  | .answerTimeout => [.line, .holders, .conditions, .governors, .districts, .alerts].contains p
  | .powerLoss => [.power, .valves, .store, .clock, .alerts].contains p
  | .controlFrameReceived _ | .controlLineByte _ | .replySent | .powerOn _ _ => true

/-- Bytes by their numbers. -/
def bytes (ns : List Nat) : List Byte := ns.map (BitVec.ofNat 8)

/-- Whether a valve moves toward OPEN or stands there. -/
def ValveState.opens (x : ValveState) : Bool := x == .opening || x == .opened

/-- Whether a valve state is FAULT. -/
def ValveState.isFault : ValveState → Bool
  | .fault _ => true
  | _ => false

end Sys2Proof.Machine
end

