-- ==== Sys2Proof/WellFormed.lean ====
section
/-! DEFINITION. Well-formed commands: those whose operands the control line's frames, the field line's frames or the
module's own timers can carry (11.3, R188). The block takes the others too; they are refused or act on nothing. -/

namespace Sys2Proof

/-- Whether a number fits a width of bytes (R188). -/
def fits (width n : Nat) : Bool := decide (n < 256 ^ width)

/-- Whether a pair of an AMEND can be carried in a frame: the field is defined for the record kind and of a fixed width,
and the value is one that its bytes spell (R188, R189). -/
def pairFits (kind : Nat) (p : Nat × Int) : Bool :=
  match Machine.fieldWidth kind p.1 with
  | none => false
  | some w =>
    p.1 < 256 && !(kind == 6 && p.1 == 7) &&
      if Machine.fieldSigned kind p.1 then decide (-(256 ^ w / 2 : Nat) ≤ p.2 ∧ p.2 < (256 ^ w / 2 : Nat))
      else decide (0 ≤ p.2 ∧ p.2 < (256 ^ w : Nat))

/-- The bytes a list of pairs takes. -/
def pairsLength (kind : Nat) (ps : List (Nat × Int)) : Nat :=
  (ps.map fun p => 1 + (Machine.fieldWidth kind p.1).getD 0).sum

/-- Whether the operands of an OPEN fit their places; a time limit of 0 is sent for none. -/
def OpenRequest.wellFormed : OpenRequest → Bool
  | .fill h target limit => fits 1 h && fits 3 target && limit.all fun l => l != 0 && fits 2 l
  | .send h g => fits 1 h && fits 1 g

/-- Whether the operands of an ENROL fit their places; an increment of 0 is sent for none. -/
def EnrolRequest.wellFormed (r : EnrolRequest) : Bool :=
  fits 1 r.address && fits 1 r.kind && fits 1 r.bindingA && fits 1 r.bindingB &&
    r.maxIncrement.all fun m => m != 0 && fits 3 m

/-- Whether the operands of an ACKNOWLEDGE fit their places. -/
def AcknowledgeRequest.wellFormed (r : AcknowledgeRequest) : Bool :=
  fits 1 r.group && r.named.all fun x => fits 1 x.1 && fits 2 x.2

/-- Whether a command is one that its sender can send. -/
def Instr.wellFormed : Instr → Bool
  | .read kind key => fits 1 kind && fits 2 key
  | .amend kind key ps => fits 1 kind && fits 2 key && ps.all (pairFits kind) && decide (pairsLength kind ps + 4 ≤ 200)
  | .openOrder r => r.wellFormed
  | .cancel n => fits 2 n
  | .retireOrder n => fits 2 n
  | .retireStation a => fits 2 a
  | .enrol r => r.wellFormed
  | .acknowledge r => r.wellFormed
  | .controlFrameReceived bytes => decide (0 < bytes.length ∧ bytes.length ≤ 204)
  | .answerReceived bytes => decide (0 < bytes.length ∧ bytes.length ≤ 254)
  | .timeLimitExpiry n => decide (0 < n ∧ n ≤ 9999)
  | .listOrders | .listRoster | .summary | .store | .restart _ | .frameGapSilence | .replySent | .storeWriteEnd _
  | .powerOn _ _ | .encoderStep _ _ | .contactRawChange _ _ | .debounceExpiry _ | .travelTimerExpiry _
  | .adjustTimerExpiry _ | .clockAdvance | .cycleTimerExpiry | .gapEnd | .callSent | .answerTimeout
  | .controlLineByte _ | .powerLoss => true

/-- The request a host request command stands for. -/
def Instr.request : Instr → Option Machine.HostRequest
  | .read kind key => some (.read kind key)
  | .listOrders => some .listOrders
  | .listRoster => some .listRoster
  | .amend kind key pairs => some (.amend kind key pairs none)
  | .openOrder r => some (.openOrder r)
  | .cancel n => some (.cancel n)
  | .retireOrder n => some (.retireOrder n)
  | .retireStation a => some (.retireStation a)
  | .enrol r => some (.enrol r)
  | .acknowledge r => some (.acknowledge r)
  | .summary => some .summary
  | .store => some .store
  | .restart k => some (.restart k)
  | .controlFrameReceived _ | .frameGapSilence | .replySent | .storeWriteEnd _ | .powerOn _ _ | .encoderStep _ _
  | .contactRawChange _ _ | .debounceExpiry _ | .travelTimerExpiry _ | .timeLimitExpiry _ | .adjustTimerExpiry _
  | .clockAdvance | .cycleTimerExpiry | .gapEnd | .callSent | .answerReceived _ | .answerTimeout | .controlLineByte _
  | .powerLoss => none

end Sys2Proof
end

