-- ==== Sys2Proof/Certificates/Slice0/Obligations.lean ====
section
/-! DEFINITION. The statements for the provers. Each is a proposition about the model, named for what it states; each
docstring names the rules of spec/ it comes from. -/

open Sys2Proof Sys2Proof.Machine

/-! ## The queue, frames and whole-machine rules -/

/-- A step of a state with a command at the front of its queue is exec of that command on the state with the rest of the
queue. (The queue is the model's own: log entry 1.) -/
def Obligations.StepTakesTheFrontCommand : Prop :=
  ∀ (c : Instr) (rest : List Instr) (s : State),
    step { s with pending := c :: rest } = exec c { s with pending := rest }

/-- With an empty queue a step is the expiry of a timer that is due, and with none due it lets one millisecond pass. Due are:
a pending change steady for the debounce time (R9), a travel limit (R48), a FILL's time limit (R66, R68), an adjust period
(R117), the minute of the clock (R154), the cycle period (R130), the 5 ms gap (R131), the answer timeout of the call (R132) and
the 50 ms frame gap (R172 to R174), each passed in full since its start; while the module is down the minute alone (R161).
(That the queue's emptiness lets time pass, and which of several goes first, is the model's own choice: log entry 3.) -/
def Obligations.EmptyQueueTakesTheDueTimer : Prop :=
  ∀ s : State, s.pending = [] →
    let passed : Nat → Nat → Prop := fun since time => since + time ≤ s.now
    let due : Instr → Prop := fun c =>
      (s.power = .up ∨ c = .clockAdvance) ∧
        match c with
        | .debounceExpiry x => ∃ k, (s.contact x).change = some k ∧ passed k.since s.yardCfg.debounce
        | .travelTimerExpiry v => ∃ k, (s.valve v).travel = some k ∧ passed k.since (1000 * k.limit)
        | .timeLimitExpiry n => ∃ o ∈ s.book.orders, o.number = n ∧ ∃ target minutes since,
            o.kind = .fill target (some minutes) ∧ o.limitTimer = some since ∧ passed since (60000 * minutes)
        | .adjustTimerExpiry g => passed (s.governor g).adjustSince (1000 * (s.governorCfg g).adjustPeriod)
        | .clockAdvance => passed s.clock.since 60000
        | .cycleTimerExpiry => passed s.line.cycleSince (1000 * s.yardCfg.cyclePeriod)
        | .gapEnd => ∃ since, s.line.activity = .gap since ∧ passed since 5
        | .answerTimeout => ∃ k since, s.line.activity = .waiting k since ∧ passed since k.timeout
        | .frameGapSilence =>
            (s.port.receiver = .assembling ∨ s.port.receiver = .settling) ∧ passed s.port.quietSince 50
        | _ => False
    (∀ c, due c → ∃ c', due c' ∧ step s = exec c' s) ∧
      ((∀ c, ¬ due c) → step s = .next { s with now := s.now + 1 })

/-- Every command answers a next state. No command touches the queue or the clock of the model; the strap changes only
by CONTACT_RAW_CHANGE of it or at POWER_ON, the level on a contact input only by CONTACT_RAW_CHANGE of it, and a phase pair
only by ENCODER_STEP of its holder (R6, R9, R173).
That those two rows carry the strap is the model's reading (log entry 21). -/
def Obligations.CommandsKeepQueueTimeAndInputs : Prop :=
  ∀ (c : Instr) (s : State), Answers c s fun t =>
    t.pending = s.pending ∧ t.now = s.now ∧
      ((∀ p m, c ≠ .powerOn p m) → (∀ l, c ≠ .contactRawChange .strap l) → t.strapMade = s.strapMade) ∧
      (∀ x : ContactId, (∀ l, c ≠ .contactRawChange (.contact x) l) → (t.contact x).raw = (s.contact x).raw) ∧
      (∀ h : HolderId, (∀ p, c ≠ .encoderStep h p) → (t.holder h).phases = (s.holder h).phases)

/-- The frame of every command: a record outside the parts that its rules let it change is as before. -/
def Obligations.CommandsChangeOnlyTheirParts : Prop :=
  ∀ (c : Instr) (s t : State), exec c s = .next t → ∀ p : Part, commandMayChange c p = false → s.Agrees t p

/-- Within those parts a yard event touches only what its own item reaches: another holder, contact or governor, and the
valves of another holder's inlet or another governor's outlets, are as before. -/
def Obligations.YardEventsTouchTheirOwnItems : Prop :=
  (∀ (h h' : HolderId) (p : PhasePair) (s t : State), exec (.encoderStep h p) s = .next t → h' ≠ h →
    t.holder h' = s.holder h' ∧ t.valve (inletOf h') = s.valve (inletOf h')) ∧
  (∀ (c c' : ContactId) (s t : State), exec (.debounceExpiry c) s = .next t → c' ≠ c → t.contact c' = s.contact c') ∧
  (∀ (c : ContactId) (h : HolderId) (s t : State), exec (.debounceExpiry c) s = .next t → c ≠ .mark h → c ≠ .landed h →
    t.holder h = s.holder h) ∧
  (∀ (v : ValveId) (c : Instr) (s t : State),
    c = .travelTimerExpiry v ∨ c = .debounceExpiry (.openSwitch v) ∨ c = .debounceExpiry (.shutSwitch v) →
    exec c s = .next t →
    (∀ h, v = inletOf h → t.governors = s.governors ∧ ∀ u, u ≠ v → t.valve u = s.valve u) ∧
      (∀ h g, v = outletOf h g →
        (∀ g', g' ≠ g → t.governor g' = s.governor g' ∧ ∀ k, t.valve (outletOf k g') = s.valve (outletOf k g')) ∧
          ∀ k, t.valve (inletOf k) = s.valve (inletOf k))) ∧
  (∀ (g : GovernorId) (s t : State), exec (.adjustTimerExpiry g) s = .next t →
    (∀ g', g' ≠ g → t.governor g' = s.governor g' ∧ ∀ k, t.valve (outletOf k g') = s.valve (outletOf k g')) ∧
      ∀ k, t.valve (inletOf k) = s.valve (inletOf k))

/-- What a module that is down does: it takes no request, no byte, no timer but the clock's; it holds what the wiring
shows; its clock runs on the standby supply and closes no day (R161). A move of the strap, up or down, is held and does
nothing else, since it acts at the next start (R173). A loss of mains takes the module down with every
drive and the attention output off, a write cut short and the count of minutes down at 0 (R44, R169, R181).
That a module which is down takes nothing else is the model's reading (log entries 19 and 31), and so is the row that
moves the strap (log entry 21). -/
def Obligations.PowerLossAndTheModuleDown : Prop :=
  (∀ (c : Instr) (s : State), s.power = .down → (∀ h p, c ≠ .encoderStep h p) → (∀ x l, c ≠ .contactRawChange x l) →
    c ≠ .clockAdvance → (∀ p m, c ≠ .powerOn p m) → exec c s = .next s) ∧
  (∀ (h : HolderId) (p : PhasePair) (s : State), s.power = .down →
    exec (.encoderStep h p) s = .next (s.setHolder h { s.holder h with phases := p })) ∧
  (∀ (x : ContactId) (l : Level) (s : State), s.power = .down →
    exec (.contactRawChange (.contact x) l) s = .next (s.setContact x { s.contact x with raw := l })) ∧
  (∀ (l : Level) (s : State), exec (.contactRawChange .strap l) s = .next { s with strapMade := l == .closed }) ∧
  (∀ s : State, s.power = .down → exec .clockAdvance s = .next (s.setClock
    { s.clock with
      minute := if s.clock.minute < 1439 then s.clock.minute + 1 else 0
      minutesDown := min 1440 (s.clock.minutesDown + 1)
      since := s.now })) ∧
  (∀ s : State, s.power = .up → Answers .powerLoss s fun t =>
    t.power = .down ∧ t.alerts.attention = false ∧ t.clock = { s.clock with minutesDown := 0 } ∧
      t.store.state = s.store.state ∧
      t.store.image = (if s.store.state.isWriting = true then none else s.store.image) ∧
      ∀ v : ValveId, (t.valve v).state = (s.valve v).state ∧ (t.valve v).drive = .off ∧ (t.valve v).travel = none)

/-! ## The control line (chapters 10 and 11) -/

/-- The body that names a well-formed request reads back as that request (R174, R189, 11.3). -/
def Obligations.RequestBodiesReadBack : Prop :=
  ∀ (i : Instr) (r : HostRequest), i.wellFormed = true → i.request = some r → readRequest r.body = some r

/-- A good frame that arrives while the port listens is taken as the request its body names (R174, R175, R187): its bytes
come to the same state as the request's own command, the port's frame empty and its silence timed from the last byte.
A frame row is its bytes in turn (model's reading: log entry 24). -/
def Obligations.GoodFrameIsItsRequest : Prop :=
  ∀ (i : Instr) (r : HostRequest) (s : State), i.wellFormed = true → i.request = some r → s.power = .up →
    s.port.receiver = .listening →
      Answers (.controlFrameReceived (frameOf r.body)) s fun t =>
        exec i (s.setPort { s.port with frame := [], quietSince := s.now }) = .next t

/-- A complete frame is discarded without reply, and the port settles, when its check does not match or its body's length
does not suit the request kind (R174, R187); a good frame whose first byte names no request kind is answered REFUSED with
UNKNOWN_KIND (R175, R189).
A frame row is its bytes in turn (model's reading: log entry 24). -/
def Obligations.BadFramesAreDiscarded : Prop :=
  (∀ (body check : List Byte) (s : State), s.power = .up → s.port.receiver = .listening → 1 ≤ body.length →
    body.length ≤ 200 → check.length = 2 →
    check ≠ checkBytes body ∨ lengthSuits (numberAt body 0 1) body.length = false →
      exec (.controlFrameReceived (startByte :: BitVec.ofNat 8 body.length :: (body ++ check))) s =
        .next (s.setPort { s.port with receiver := .settling, frame := [], quietSince := s.now })) ∧
  (∀ (k : Byte) (rest : List Byte) (s : State), s.power = .up → s.port.receiver = .listening → rest.length ≤ 199 →
    k.toNat = 0 ∨ 12 < k.toNat →
      exec (.controlFrameReceived (frameOf (k :: rest))) s =
        .next (s.setPort
          { s.port with receiver := .replying, frame := [], quietSince := s.now, reply := some [k, 2#8] }))

/-- What a byte on the control line does in each receiver state, short of completing a frame (R173, R174, R187). -/
def Obligations.ControlLineBytesAssemble : Prop :=
  ∀ (b : Byte) (s : State), s.power = .up →
    (s.port.receiver = .listening → b ≠ 0xD5#8 →
      exec (.controlLineByte b) s = .next (s.setPort { s.port with quietSince := s.now })) ∧
    (s.port.receiver = .listening → b = 0xD5#8 →
      exec (.controlLineByte b) s =
        .next (s.setPort { s.port with receiver := .assembling, frame := [0xD5#8], quietSince := s.now })) ∧
    (s.port.receiver = .assembling → s.port.frame.length = 1 → b.toNat = 0 ∨ 200 < b.toNat →
      exec (.controlLineByte b) s =
        .next (s.setPort { s.port with receiver := .settling, frame := [], quietSince := s.now })) ∧
    (s.port.receiver = .assembling →
      (s.port.frame.length = 1 ∧ 1 ≤ b.toNat ∧ b.toNat ≤ 200) ∨
        (2 ≤ s.port.frame.length ∧ s.port.frame.length + 1 ≠ numberAt s.port.frame 1 1 + 4) →
      exec (.controlLineByte b) s =
        .next (s.setPort { s.port with frame := s.port.frame ++ [b], quietSince := s.now })) ∧
    (s.port.receiver = .replying ∨ s.port.receiver = .settling →
      exec (.controlLineByte b) s = .next (s.setPort { s.port with quietSince := s.now }))

/-- Silence of the frame gap drops a partial frame or ends the settling, and changes nothing else (R173, R174). The end of
a reply makes the port settle, or begins the start that a RESTART ordered, with no time down and the strap as it stands
(R173, R174, R184). -/
def Obligations.SilenceAndTheEndOfAReply : Prop :=
  ∀ s : State, s.power = .up →
    (s.port.receiver = .assembling ∨ s.port.receiver = .settling →
      exec .frameGapSilence s = .next (s.setPort { s.port with receiver := .listening, frame := [] })) ∧
    (s.port.receiver = .listening ∨ s.port.receiver = .replying → exec .frameGapSilence s = .next s) ∧
    (s.port.receiver = .replying → s.port.restart = none →
      exec .replySent s =
        .next (s.setPort { s.port with receiver := .settling, frame := [], reply := none, quietSince := s.now })) ∧
    (∀ k, s.port.receiver = .replying → s.port.restart = some k →
      exec .replySent s =
        .next ({ s with clock := { s.clock with minutesDown := 0 } }.start k)) ∧
    (s.port.receiver ≠ .replying → exec .replySent s = .next s)

/-- READ and LIST answer from the records and change nothing but the port (R58, R126, R175, R176): DONE with the record
kind, key and record, or the order numbers, or the stations; a kind that is no record kind is refused with UNKNOWN_KIND
and a key that names no record with NO_SUCH_RECORD. The records have the lengths of 11.5: holder 58, governor 97, district
40, yard 91, order 20 bytes (R191), and by the order of their fields valve 11 and profile table 32 (R188).
A request row is taken whatever the receiver state (model's choice: log entry 8). -/
def Obligations.ReadsAnswerFromTheRecords : Prop :=
  ∀ s : State, s.power = .up →
    (∀ h : HolderId, exec (.read 1 (h.val + 1)) s = .next (s.replying (bytes [1, 0, 1, 0, h.val + 1] ++ s.encodeHolder h))) ∧
    (∀ v : ValveId, exec (.read 2 (v.val + 1)) s = .next (s.replying (bytes [1, 0, 2, 0, v.val + 1] ++ s.encodeValve v))) ∧
    (∀ (n : Nat) (o : Order), n < 65536 → s.order n = some o →
      exec (.read 3 n) s = .next (s.replying (bytes [1, 0, 3, n / 256, n] ++ o.encode))) ∧
    (∀ g : GovernorId, exec (.read 4 (g.val + 1)) s = .next (s.replying (bytes [1, 0, 4, 0, g.val + 1] ++ s.encodeGovernor g))) ∧
    (∀ d : DistrictId, exec (.read 5 (d.val + 1)) s = .next (s.replying (bytes [1, 0, 5, 0, d.val + 1] ++ s.encodeDistrict d))) ∧
    (∀ (a : Nat) (st : Station), a < 256 → s.station a = some st →
      exec (.read 6 a) s = .next (s.replying (bytes [1, 0, 6, 0, a] ++ st.encode))) ∧
    exec (.read 7 0) s = .next (s.replying (bytes [1, 0, 7, 0, 0] ++ s.settings.profiles.toList.flatMap (beBytes 2))) ∧
    exec (.read 8 0) s = .next (s.replying (bytes [1, 0, 8, 0, 0] ++ s.encodeYard)) ∧
    (∀ (g : GroupId) (k : Nat), 1 ≤ k → k < 256 →
      exec (.read 9 (256 * (g.val + 1) + k)) s =
        .next (s.replying (bytes [1, 0, 9, g.val + 1, k] ++ s.encodeGroup g k))) ∧
    (∀ kind key : Nat, kind = 0 ∨ 9 < kind → exec (.read kind key) s = .next (s.replying (bytes [1, 2]))) ∧
    (∀ kind key : Nat,
      (kind = 1 ∧ (key = 0 ∨ 4 < key)) ∨ (kind = 2 ∧ (key = 0 ∨ 20 < key)) ∨ (kind = 3 ∧ s.order key = none) ∨
        (kind = 4 ∧ (key = 0 ∨ 4 < key)) ∨ (kind = 5 ∧ (key = 0 ∨ 6 < key)) ∨ (kind = 6 ∧ s.station key = none) ∨
        (kind = 9 ∧ (key < 256 ∨ 2048 ≤ key)) →
      exec (.read kind key) s = .next (s.replying (bytes [1, 1]))) ∧
    exec .listOrders s =
      .next (s.replying (bytes [2, 0, s.book.orders.length] ++ s.book.orders.flatMap fun o => beBytes 2 o.number)) ∧
    exec .listRoster s =
      .next (s.replying (bytes [3, 0, s.line.roster.length] ++ s.line.roster.flatMap fun st =>
        bytes [st.cfg.address, st.cfg.kind.number, st.link.code])) ∧
    (∀ h : HolderId, (s.encodeHolder h).length = 58) ∧ (∀ v : ValveId, (s.encodeValve v).length = 11) ∧
    (∀ o : Order, o.encode.length = 20) ∧ (∀ g : GovernorId, (s.encodeGovernor g).length = 97) ∧
    (∀ d : DistrictId, (s.encodeDistrict d).length = 40) ∧ s.encodeYard.length = 91 ∧
    (s.settings.profiles.toList.flatMap (beBytes 2)).length = 32

/-- SUMMARY chooses, among the groups whose level is nonzero and that hold an unacknowledged pending instance, the one of
the highest level, and of equals the lowest-numbered; it answers its number and level, how many instances it holds and up
to 24 of them, or none where no group qualifies; it changes nothing but the port (R170, R190).
That the level and the number of instances are sent as 0 with no group is the model's choice (log entry 38).
A request row is taken whatever the receiver state (model's choice: log entry 8). -/
def Obligations.SummaryChoosesTheHighestGroup : Prop :=
  ∀ s : State, s.power = .up →
    let qualifies : GroupId → Prop := fun g =>
      s.settings.levels[g] ≠ 0 ∧ ∃ p ∈ s.alerts.list, p.cause.kind.group = g ∧ p.acknowledged = false
    (∀ g : GroupId, qualifies g →
      (∀ g' : GroupId, qualifies g' →
        s.settings.levels[g'] < s.settings.levels[g] ∨ (s.settings.levels[g'] = s.settings.levels[g] ∧ g ≤ g')) →
      exec .summary s =
        .next (s.replying (bytes [10, 0, g.val + 1, s.settings.levels[g]] ++ beBytes 2 (s.instancesOf g).length ++
          bytes [min 24 (s.instancesOf g).length] ++ ((s.instancesOf g).take 24).flatMap Pending.encode))) ∧
    ((∀ g : GroupId, ¬ qualifies g) → exec .summary s = .next (s.replying (bytes [10, 0, 0, 0, 0, 0, 0])))

/-! ## The order book (chapter 4) -/

/-- OPEN is refused by the first check of R59 that fails, and the order book is left as it was; a request that passes every
check is answered DONE.
A request row is taken whatever the receiver state (model's choice: log entry 8). -/
def Obligations.OpenChecksInOrder : Prop :=
  ∀ s : State, s.power = .up →
    let refused : Instr → Nat → Prop := fun c code => exec c s = .next (s.replying (bytes [5, code]))
    let leadOrChanging : HolderId → GovernorId → Prop := fun h g =>
      (∃ l, (s.governor g).lead = some l ∧ l.holder = h) ∨ ∃ k, (s.governor g).slot = some k ∧ k.holder = h
    (∀ r : OpenRequest, 16 ≤ s.book.orders.length → refused (.openOrder r) 5) ∧
    (s.book.orders.length < 16 →
      (∀ (n target : Nat) (limit : Option Nat), n = 0 ∨ 4 < n → refused (.openOrder (.fill n target limit)) 1) ∧
      (∀ n g : Nat, n = 0 ∨ 4 < n ∨ g = 0 ∨ 4 < g → refused (.openOrder (.send n g)) 1) ∧
      (∀ (h : HolderId) (target : Nat) (limit : Option Nat),
        let badValue := target = 0 ∨ 999999 < target ∨ ∃ m, limit = some m ∧ (m = 0 ∨ 1440 < m)
        let c : Instr := .openOrder (.fill (h.val + 1) target limit)
        (badValue → refused c 3) ∧
        (¬ badValue → (s.holder h).service = .out → refused c 8) ∧
        (¬ badValue → (s.holder h).service = .inUse → s.trip = .active ∨ s.trip = .unknown → refused c 11) ∧
        (¬ badValue → (s.holder h).service = .inUse → s.trip = .inactive →
          Answers c s fun t => ∃ contents, t.port.reply = some (bytes [5, 0] ++ contents))) ∧
      (∀ (h : HolderId) (g : GovernorId),
        let c : Instr := .openOrder (.send (h.val + 1) (g.val + 1))
        ((s.valveCfg (outletOf h g)).fitted = false → refused c 7) ∧
        ((s.valveCfg (outletOf h g)).fitted = true → (s.holder h).service = .out → refused c 8) ∧
        ((s.valveCfg (outletOf h g)).fitted = true → (s.holder h).service = .inUse → leadOrChanging h g → refused c 9) ∧
        ((s.valveCfg (outletOf h g)).fitted = true → (s.holder h).service = .inUse → ¬ leadOrChanging h g →
          Answers c s fun t => ∃ contents, t.port.reply = some (bytes [5, 0] ++ contents))))

/-- An accepted OPEN adds a record at the end of the book under the first number after the last issued one (9,999 followed
by 1) that no record holds, which becomes the last issued number; the reply carries the number and the order's state (R57,
R60).
A request row is taken whatever the receiver state (model's choice: log entry 8). -/
def Obligations.AcceptedOpenJoinsTheBook : Prop :=
  ∀ (r : OpenRequest) (h : HolderId) (k : OrderKind) (s : State), s.power = .up → s.BookSound →
    s.book.orders.length < 16 → s.openCheck r = .ok (h, k) →
      Answers (.openOrder r) s fun t => ∃ o ∈ t.book.orders,
        o.kind = k ∧ o.holder = h ∧ o.minuteOpened = s.clock.minute ∧ t.book.lastIssued = o.number ∧
        1 ≤ o.number ∧ o.number ≤ 9999 ∧
        t.book.orders.map (·.number) = s.book.orders.map (·.number) ++ [o.number] ∧
        (∀ p ∈ s.book.orders, p.number ≠ o.number) ∧
        (∀ m, (if s.book.lastIssued < o.number then s.book.lastIssued < m ∧ m < o.number
            else (s.book.lastIssued < m ∧ m ≤ 9999) ∨ (1 ≤ m ∧ m < o.number)) → ∃ p ∈ s.book.orders, p.number = m) ∧
        t.port.reply = some (bytes [5, 0, o.number / 256, o.number, o.state.code])

/-- A FILL that is accepted with no live FILL before it on its holder starts at once: it ends GAUGE with the stock absent,
NOT_READY in HIGH_STOP or with the inlet in FAULT, TARGET at or below the present stock, no valve commanded; otherwise its
start stock is recorded and its inlet commanded OPEN, and it enters FILLING with its limit timer started if the inlet is
OPEN or arrives at once, OPENING if not (R46, R64, R65, R66).
A request row is taken whatever the receiver state (model's choice: log entry 8). -/
def Obligations.FillStartsAtOnce : Prop :=
  ∀ (h : HolderId) (target : Nat) (limit : Option Nat) (s : State), s.power = .up → s.BookSound →
    s.book.orders.length < 16 → 1 ≤ target → target ≤ 999999 → (∀ m, limit = some m → 1 ≤ m ∧ m ≤ 1440) →
    (s.holder h).service = .inUse → s.trip = .inactive → (s.valveCfg (inletOf h)).fitted = true →
    (∀ o ∈ s.book.orders, o.isFill = true → o.holder = h → o.isEnded = true) →
      Answers (.openOrder (.fill (h.val + 1) target limit)) s fun t => ∃ o ∈ t.book.orders,
        o.number = t.book.lastIssued ∧ o.kind = .fill target limit ∧ o.holder = h ∧
        match (s.holder h).stock with
        | none => o.state = .ended .gauge ∧ o.startStock = none ∧ t.valves = s.valves
        | some v =>
          if (s.holder h).limit = .highStop ∨ (s.valve (inletOf h)).state.isFault = true then
            o.state = .ended .notReady ∧ o.startStock = none ∧ t.valves = s.valves
          else if target ≤ v then
            o.state = .ended .target ∧ o.startStock = some v ∧ o.endStock = some v ∧ t.valves = s.valves
          else
            o.startStock = some v ∧ (∀ u, u ≠ inletOf h → t.valve u = s.valve u) ∧
              if (s.valve (inletOf h)).state = .opened ∨
                  ((s.valve (inletOf h)).state ≠ .opening ∧ s.openSwitch (inletOf h) = .made ∧
                    s.shutSwitch (inletOf h) = .broken) then
                o.state = .filling ∧ (t.valve (inletOf h)).state = .opened ∧ o.limitTimer = limit.map fun _ => s.now
              else o.state = .opening ∧ (t.valve (inletOf h)).state = .opening ∧ o.limitTimer = none

/-- A SEND that is accepted with the governor's slot free and no SEND for it waiting starts at once: NOT_READY with the
holder's stock absent, in LOW_STOP or with the outlet in FAULT; otherwise its start stock is recorded and its outlet
commanded OPEN, and it takes the slot in CHANGING, or completes and leads if the outlet is OPEN or arrives at once (R46,
R70, R71).
A request row is taken whatever the receiver state (model's choice: log entry 8). -/
def Obligations.SendStartsAtOnce : Prop :=
  ∀ (h : HolderId) (g : GovernorId) (s : State), s.power = .up → s.BookSound → s.book.orders.length < 16 →
    (s.valveCfg (outletOf h g)).fitted = true → (s.holder h).service = .inUse → s.leads h g = false →
    (s.governor g).slot = none → (s.governor g).deferred = noTriggers →
    (∀ o ∈ s.book.orders, o.isSendFor g = true → o.state ≠ .queued ∧ o.state ≠ .changing) →
      Answers (.openOrder (.send (h.val + 1) (g.val + 1))) s fun t => ∃ o ∈ t.book.orders,
        o.number = t.book.lastIssued ∧ o.kind = .send g ∧ o.holder = h ∧
        if (s.holder h).stock = none ∨ (s.holder h).limit = .lowStop ∨ (s.valve (outletOf h g)).state.isFault = true then
          o.state = .ended .notReady ∧ o.startStock = none ∧ t.valves = s.valves ∧ t.governors = s.governors
        else
          o.startStock = (s.holder h).stock ∧
            if (s.valve (outletOf h g)).state = .opened ∨
                ((s.valve (outletOf h g)).state ≠ .opening ∧ s.openSwitch (outletOf h g) = .made ∧
                  s.shutSwitch (outletOf h g) = .broken) then
              o.state = .leading ∧ (t.governor g).lead = some ⟨h, .order o.number⟩ ∧ (t.governor g).slot = none ∧
                (t.valve (outletOf h g)).state = .opened
            else
              o.state = .changing ∧ (t.governor g).slot = some ⟨h, .order o.number⟩ ∧
                (t.governor g).lead = (s.governor g).lead ∧ (t.valve (outletOf h g)).state = .opening

/-- CANCEL refuses a number not in the book, an ENDED and a LEADING order; any other order ends CANCELLED with its end stock
recorded. A running FILL's inlet is commanded SHUT and, with no other live FILL on the holder, does not open again; a
CHANGING SEND leaves the slot, its outlet commanded SHUT, with the governor's lead kept (R63, R72, R74, R75). The oldest
QUEUED SEND for the governor then starts (R62, R70, R91): it ends NOT_READY if a start check fails, and otherwise, unless its
outlet is OPEN or arrives at once, takes the slot in CHANGING, and the deferred triggers stay deferred.
A request row is taken whatever the receiver state (model's choice: log entry 8). -/
def Obligations.CancelEndsTheOrder : Prop :=
  ∀ (n : Nat) (s : State), s.power = .up → s.BookSound →
    (s.order n = none → exec (.cancel n) s = .next (s.replying (bytes [6, 1]))) ∧
    ∀ o, s.order n = some o →
      (o.isEnded = true → exec (.cancel n) s = .next (s.replying (bytes [6, 9]))) ∧
      (o.state = .leading → exec (.cancel n) s = .next (s.replying (bytes [6, 10]))) ∧
      (o.isEnded = false → o.state ≠ .leading → Answers (.cancel n) s fun t =>
        (∃ o' ∈ t.book.orders, o'.number = n ∧ o'.state = .ended .cancelled ∧ o'.endStock = (s.holder o.holder).stock ∧
          o'.limitTimer = none) ∧
        t.port.reply = some (bytes [6, 0, n / 256, n, 5]) ∧
        (o.isRunningFill = true → (s.valveCfg (inletOf o.holder)).fitted = true →
          (∀ p ∈ s.book.orders, p.isFill = true → p.holder = o.holder → p.number ≠ n → p.isEnded = true) →
            (t.valve (inletOf o.holder)).state.opens = false) ∧
        (o.state = .queued → (∀ p ∈ s.book.orders, p.number ≠ n → p.state ≠ .queued) →
          t.valves = s.valves ∧ t.governors = s.governors) ∧
        ∀ g, o.kind = .send g → o.state = .changing → (∀ p ∈ s.book.orders, p.isSendFor g = true → p.state ≠ .queued) →
          (s.governor g).deferred = noTriggers → (s.valveCfg (outletOf o.holder g)).fitted = true →
            (t.governor g).slot = none ∧ (t.governor g).lead = (s.governor g).lead ∧
              (t.valve (outletOf o.holder g)).state.opens = false) ∧
      (∀ (g : GovernorId) (before after : List Order) (p : Order), o.kind = .send g → o.state = .changing →
        s.book.orders = before ++ p :: after → p.kind = .send g → p.state = .queued → p.holder ≠ o.holder →
        (∀ q ∈ before, q.isSendFor g = true → q.state ≠ .queued) →
        (∀ q ∈ s.book.orders, q.isSendFor g = true → q.number ≠ n → q.state ≠ .changing) →
        (s.valveCfg (outletOf p.holder g)).fitted = true →
          Answers (.cancel n) s fun t => ∃ p' ∈ t.book.orders, p'.number = p.number ∧
            let x := s.holder p.holder
            let v := (s.valve (outletOf p.holder g)).state
            if x.service = .out ∨ x.stock = none ∨ x.limit = .lowStop ∨ v.isFault = true then p'.state = .ended .notReady
            else v = .opened ∨ (v ≠ .opening ∧ s.openSwitch (outletOf p.holder g) = .made ∧
                s.shutSwitch (outletOf p.holder g) = .broken) ∨
              (p'.state = .changing ∧ p'.startStock = x.stock ∧ (t.governor g).slot = some ⟨p.holder, .order p.number⟩ ∧
                (t.governor g).lead = (s.governor g).lead ∧ (t.governor g).deferred = (s.governor g).deferred ∧
                (t.valve (outletOf p.holder g)).state = .opening))

/-- RETIRE of an order: an ENDED one leaves the book, the others keeping their order, with its ORDER_ENDED instance, and the
reply is DONE; a live one is refused with NOT_ENDED and a number not in the book with NO_SUCH_RECORD (R76).
A request row is taken whatever the receiver state (model's choice: log entry 8). -/
def Obligations.RetireRemovesAnEndedOrder : Prop :=
  ∀ (n : Nat) (s : State), s.power = .up → s.BookSound → s.AlertsSound →
    (s.order n = none → exec (.retireOrder n) s = .next (s.replying (bytes [7, 1]))) ∧
    ∀ o, s.order n = some o →
      (o.isEnded = false → exec (.retireOrder n) s = .next (s.replying (bytes [7, 12]))) ∧
      (o.isEnded = true → Answers (.retireOrder n) s fun t =>
        t.book = ⟨s.book.orders.filter fun p => p.number != n, s.book.lastIssued⟩ ∧
        t.book.orders.length + 1 = s.book.orders.length ∧ (∀ p ∈ t.book.orders, p.number ≠ n) ∧
        t.alerts.list = s.alerts.list.filter (fun p => p.cause != ⟨.orderEnded, n⟩) ∧
        ¬ t.isPending .orderEnded n ∧ t.port.reply = some (bytes [7, 0]))

/-- A time limit that expires ends a FILLING order TIMED_OUT with its inlet commanded SHUT, which does not open again with no
other live FILL on the holder; the expiry for any other order finds nothing to end (R63, R68). The oldest QUEUED FILL on the
holder then starts (R62, R64 to R66): it ends NOT_READY, GAUGE or TARGET at its start, or its start stock is recorded and its
inlet commanded OPEN again, which arrives at once where the open switch has not yet counted BROKEN.
An expiry row sent as a command acts whatever the time elapsed (model's choice: log entry 3). -/
def Obligations.TimeLimitEndsTheFill : Prop :=
  ∀ (n : Nat) (s : State), s.power = .up → s.BookSound →
    (∀ o, s.order n = some o → o.state = .filling → o.limitTimer.isSome = true →
      Answers (.timeLimitExpiry n) s fun t =>
        (∃ o' ∈ t.book.orders, o'.number = n ∧ o'.state = .ended .timedOut ∧ o'.endStock = (s.holder o.holder).stock ∧
          o'.limitTimer = none) ∧
        ((s.valveCfg (inletOf o.holder)).fitted = true →
          (∀ p ∈ s.book.orders, p.isFill = true → p.holder = o.holder → p.number ≠ n → p.isEnded = true) →
            (t.valve (inletOf o.holder)).state.opens = false) ∧
        ∀ (before after : List Order) (p : Order) (target : Nat) (limit : Option Nat),
          s.book.orders = before ++ p :: after → p.kind = .fill target limit → p.holder = o.holder → p.state = .queued →
          (∀ q ∈ before, q.isFill = true → q.holder = o.holder → q.number ≠ n → q.isEnded = true) →
          (s.valveCfg (inletOf o.holder)).fitted = true →
            ∃ p' ∈ t.book.orders, p'.number = p.number ∧
              if (s.holder o.holder).service = .out then p'.state = .ended .notReady
              else
                match (s.holder o.holder).stock with
                | none => p'.state = .ended .gauge
                | some v =>
                  if (s.holder o.holder).limit = .highStop ∨ s.trip ≠ .inactive then p'.state = .ended .notReady
                  else p'.startStock = some v ∧
                    if target ≤ v then p'.state = .ended .target
                    else if s.openSwitch (inletOf o.holder) = .made ∧ s.shutSwitch (inletOf o.holder) = .broken then
                      p'.state = .filling ∧ (t.valve (inletOf o.holder)).state = .opened ∧
                        p'.limitTimer = limit.map fun _ => s.now
                    else p'.state = .opening ∧ (t.valve (inletOf o.holder)).state = .opening) ∧
    ((∀ o, s.order n = some o → o.state ≠ .filling ∨ o.limitTimer = none) →
      Answers (.timeLimitExpiry n) s fun t => t.book = s.book ∧ t.valves = s.valves)

/-- When the yard trip counts OPEN it becomes ACTIVE, every FILL that is not ENDED ends TRIPPED, and every inlet is commanded
SHUT: one in SHUT or CLOSING stays as it is, and one in OPENING, OPEN or FAULT starts CLOSING with its travel limit, or is SHUT
at once where its switches already stand so (R45, R46). No SEND, outlet or lead is touched (R77, R78). When it counts CLOSED it
becomes INACTIVE and nothing but that contact changes but for the alerts (R77, R79). -/
def Obligations.TripEndsEveryFill : Prop :=
  ∀ (since : Nat) (s : State), s.power = .up → s.BookSound →
    (∀ h : HolderId, (s.valveCfg (inletOf h)).fitted = true) →
    ((s.contact .trip).change = some ⟨.opened, since⟩ → Answers (.debounceExpiry .trip) s fun t =>
      t.trip = .active ∧ t.governors = s.governors ∧
      t.book.orders.map (·.number) = s.book.orders.map (·.number) ∧
      (∀ o ∈ s.book.orders, o.isFill = true → o.isEnded = false →
        ∃ o' ∈ t.book.orders, o'.number = o.number ∧ o'.state = .ended .tripped) ∧
      (∀ o ∈ s.book.orders, o.isFill = false ∨ o.isEnded = true → o ∈ t.book.orders) ∧
      (∀ h : HolderId, (t.valve (inletOf h)).state.opens = false ∧
        t.valve (inletOf h) =
          if (s.valve (inletOf h)).state = .shut ∨ (s.valve (inletOf h)).state = .closing then s.valve (inletOf h)
          else if s.shutSwitch (inletOf h) = .made ∧ s.openSwitch (inletOf h) = .broken then ⟨.shut, .off, none⟩
          else ⟨.closing, .toShut, some ⟨(s.valveCfg (inletOf h)).travelLimit, s.now⟩⟩) ∧
      ∀ (h : HolderId) (g : GovernorId), t.valve (outletOf h g) = s.valve (outletOf h g)) ∧
    ((s.contact .trip).change = some ⟨.closed, since⟩ → Answers (.debounceExpiry .trip) s fun t =>
      t.trip = .inactive ∧ t.book = s.book ∧ t.valves = s.valves ∧ t.governors = s.governors)

/-- What a change of a holder's stock, lift count, pressure or limit condition does to the holder's running FILL, whichever event
brings it: an encoder step, a closing of the landed or mark contact, an AMEND of the holder that does not take it OUT, or an
answer. Stock that is absent ends it GAUGE; an entry into HIGH_STOP ends it HIGH_STOP, the stock changed or not; stock at the
target or above ends one in FILLING TARGET; any other change leaves it as it is. At an end the end stock is the new stock and
the inlet is commanded SHUT, which does not open again at GAUGE or HIGH_STOP, nor at TARGET with no other live FILL on the
holder (R18, R35, R67). A running FILL whose inlet enters FAULT, by its travel timer or a counted switch, ends VALVE_FAULT
(R68). The AMEND of the debounce time, which may count several contacts at once, is left to its own statement.
A request row is taken whatever the receiver state (model's choice: log entry 8).
An expiry row sent as a command acts whatever the time elapsed (model's choice: log entry 3). -/
def Obligations.StockChangeEndsTheFill : Prop :=
  (∀ (h : HolderId) (c : Instr) (o : Order) (target : Nat) (limit : Option Nat) (s t : State), s.power = .up →
    s.BookSound → s.FillsWait → (∀ g, s.SendsSound g) → (s.valveCfg (inletOf h)).fitted = true →
    (∃ p, c = .encoderStep h p) ∨ c = .debounceExpiry (.landed h) ∨ c = .debounceExpiry (.mark h) ∨
      (∃ ps, c = .amend 1 (h.val + 1) ps) ∨ (∃ bs, c = .answerReceived bs) →
    exec c s = .next t → o ∈ s.book.orders → o.holder = h → o.kind = .fill target limit → o.isRunningFill = true →
    let x := s.holder h
    let y := t.holder h
    x.service = .out ∨ y.service = .inUse →
    y.stock ≠ x.stock ∨ y.floating ≠ x.floating ∨ y.pressure ≠ x.pressure ∨ y.limit ≠ x.limit →
    let ends : EndReason → Prop := fun why =>
      ∃ o' ∈ t.book.orders, o'.number = o.number ∧ o'.state = .ended why ∧ o'.endStock = y.stock ∧ o'.limitTimer = none
    let closed := (t.valve (inletOf h)).state.opens = false
    let others := ∀ q ∈ s.book.orders, q.isFill = true → q.holder = h → q.number ≠ o.number → q.isEnded = true
    (y.stock = none → ends .gauge ∧ closed) ∧
    ∀ v, y.stock = some v →
      let entersHighStop := y.limit = .highStop ∧ x.limit ≠ .highStop
      let reached := o.state = .filling ∧ target ≤ v
      (entersHighStop → ends .highStop ∧ closed) ∧
      (¬ entersHighStop → reached → ends .target ∧ (others → closed)) ∧
      (¬ entersHighStop → ¬ reached → o ∈ t.book.orders)) ∧
  (∀ (h : HolderId) (c : Instr) (o : Order) (s t : State), s.power = .up → s.BookSound → s.FillsWait →
    c = .travelTimerExpiry (inletOf h) ∨ c = .debounceExpiry (.openSwitch (inletOf h)) ∨
      c = .debounceExpiry (.shutSwitch (inletOf h)) →
    exec c s = .next t → (s.valve (inletOf h)).state.isFault = false → (t.valve (inletOf h)).state.isFault = true →
    o ∈ s.book.orders → o.holder = h → o.isRunningFill = true →
      ∃ o' ∈ t.book.orders, o'.number = o.number ∧ o'.state = .ended .valveFault ∧
        o'.endStock = (s.holder h).stock ∧ o'.limitTimer = none)

/-! ## Supply and the lead holder (chapter 5) -/

/-- An encoder step by which a holder enters LOW_STOP leaves it the lead of no governor, in no changeover, and none of its
fitted outlets OPENING or OPEN (R17, R72, R88, R97), and ends LOW_STOP, with its end stock, every SEND on it that leads or
changes over a governor (R63, R72, R73). -/
def Obligations.LowStopRemovesTheLead : Prop :=
  ∀ (h : HolderId) (p : PhasePair) (s t : State), s.power = .up → exec (.encoderStep h p) s = .next t →
    (t.holder h).limit = .lowStop → (s.holder h).limit ≠ .lowStop → ∀ g : GovernorId,
      t.leads h g = false ∧ t.changingTo h g = false ∧
        ((s.valveCfg (outletOf h g)).fitted = true → (t.valve (outletOf h g)).state.opens = false) ∧
        (s.BookSound → s.SendsSound g → ∀ o ∈ s.book.orders, o.isSendFor g = true → o.holder = h →
          o.state = .changing ∨ o.state = .leading →
            ∃ o' ∈ t.book.orders, o'.number = o.number ∧ o'.state = .ended .lowStop ∧ o'.endStock = (t.holder h).stock)

/-- An outlet's arrival at OPEN completes the changeover in flight on it: the holder becomes the lead, the slot is freed, the
old lead's valve is commanded SHUT, a LEADING order ends RELIEVED, CHANGEOVER_DONE is raised if the lead holder changed,
and the SEND that made it enters LEADING (R71, R73, R92). An inlet's arrival takes its FILL into FILLING, with its limit
timer started, or ends it TARGET (R66). -/
def Obligations.ArrivalsAtOpenComplete : Prop :=
  (∀ (h : HolderId) (g : GovernorId) (made : ChangeoverBy) (since : Nat) (s : State), s.power = .up → s.BookSound →
    s.SendsSound g → s.AlertsSound → (s.valveCfg (outletOf h g)).fitted = true →
    (s.valve (outletOf h g)).state = .opening → (s.contact (.openSwitch (outletOf h g))).change = some ⟨.closed, since⟩ →
    s.shutSwitch (outletOf h g) = .broken → (s.governor g).slot = some ⟨h, made⟩ →
    (s.governor g).deferred = noTriggers → (∀ o ∈ s.book.orders, o.isSendFor g = true → o.state ≠ .queued) →
      Answers (.debounceExpiry (.openSwitch (outletOf h g))) s fun t =>
        (t.governor g).lead =
          some ⟨h, match made with
            | .order n => .order n
            | .automatic => .automatic⟩ ∧
        (t.governor g).slot = none ∧ (t.valve (outletOf h g)).state = .opened ∧
        (∀ n, made = .order n → ∃ o ∈ t.book.orders, o.number = n ∧ o.state = .leading) ∧
        (∀ o ∈ s.book.orders, o.isSendFor g = true → o.state = .leading →
          ∃ o' ∈ t.book.orders, o'.number = o.number ∧ o'.state = .ended .relieved) ∧
        (∀ l, (s.governor g).lead = some l → l.holder ≠ h → (s.valveCfg (outletOf l.holder g)).fitted = true →
          (t.valve (outletOf l.holder g)).state.opens = false) ∧
        (s.leads h g = false → s.enabled .changeoverDone = true → t.isPending .changeoverDone (g.val + 1)) ∧
        (s.leads h g = true → t.alerts.list.filter (fun p => p.cause == ⟨.changeoverDone, g.val + 1⟩) =
          s.alerts.list.filter fun p => p.cause == ⟨.changeoverDone, g.val + 1⟩)) ∧
  (∀ (h : HolderId) (o : Order) (target v : Nat) (limit : Option Nat) (since : Nat) (s : State), s.power = .up →
    s.BookSound → s.FillsWait → (s.valveCfg (inletOf h)).fitted = true → (s.valve (inletOf h)).state = .opening →
    (s.contact (.openSwitch (inletOf h))).change = some ⟨.closed, since⟩ → s.shutSwitch (inletOf h) = .broken →
    o ∈ s.book.orders → o.holder = h → o.kind = .fill target limit → o.state = .opening → (s.holder h).stock = some v →
      Answers (.debounceExpiry (.openSwitch (inletOf h))) s fun t =>
        (v < target → (t.valve (inletOf h)).state = .opened ∧
          { o with state := .filling, limitTimer := limit.map fun _ => s.now } ∈ t.book.orders) ∧
        (target ≤ v → ∃ o' ∈ t.book.orders, o'.number = o.number ∧ o'.state = .ended .target))

/-- An attempt takes the first holder of the governor's standby list that passes every test of R94 (the ceiling test dropped
for REMOVAL) and starts a changeover to it, its outlet commanded OPEN, or completed at once if that is OPEN or arrives at
once; with no candidate it raises CHANGEOVER_FAILED and sets ceiling retry if it was made for CEILING (R92, R94 to R96).
Triggers are discarded with changeovers OFF, join the deferred ones while the slot is taken, and are otherwise attempted
together (R93). A freed slot that no SEND takes has its deferred triggers taken and emptied: those whose condition holds are
attempted together if changeovers are ON (R91, R99). -/
def Obligations.AttemptTakesTheFirstCandidate : Prop :=
  ∀ (g : GovernorId) (w : Triggers) (s : State),
    let passes : HolderId → Prop := fun h =>
      (∀ l, (s.governor g).lead = some l → l.holder ≠ h) ∧ (s.holder h).service = .inUse ∧ (s.holder h).stock ≠ none ∧
        (s.holder h).limit ≠ .lowStop ∧ (s.holder h).limit ≠ .lowWarn ∧ (s.valveCfg (outletOf h g)).fitted = true ∧
        (s.valve (outletOf h g)).state.isFault = false ∧
        (w.removal = false → (s.governor g).desired ≤ ((s.holder h).pressure : Int) - (s.governorCfg g).mainLoss)
    (∀ (before after : List HolderId) (h : HolderId), (s.governorCfg g).standby = before ++ h :: after →
      (∀ k ∈ before, ¬ passes k) → passes h →
        if (s.valve (outletOf h g)).state = .opened ∨
            ((s.valve (outletOf h g)).state ≠ .opening ∧ s.openSwitch (outletOf h g) = .made ∧
              s.shutSwitch (outletOf h g) = .broken) then
          ((s.attempt g w).governor g).lead = some ⟨h, .automatic⟩ ∧ ((s.attempt g w).governor g).slot = none
        else
          ((s.attempt g w).governor g).slot = some ⟨h, .automatic⟩ ∧
            ((s.attempt g w).governor g).lead = (s.governor g).lead ∧ ((s.attempt g w).governor g).retry = false ∧
            ((s.attempt g w).valve (outletOf h g)).state = .opening) ∧
    ((∀ k ∈ (s.governorCfg g).standby, ¬ passes k) →
      s.attempt g w =
        (s.setGovernor g { s.governor g with retry := (s.governor g).retry || w.ceiling }).raise .changeoverFailed (g.val + 1)) ∧
    (let v := s.governor g
      let on := (s.governorCfg g).autoChangeover
      let given := w.warn = true ∨ w.ceiling = true ∨ w.removal = true
      (on = false ∨ ¬ given → s.trigger g w = s) ∧
      (on = true → given → v.slot ≠ none → s.trigger g w = s.setGovernor g
        { v with
          deferred := ⟨v.deferred.warn || w.warn, v.deferred.ceiling || w.ceiling, v.deferred.removal || w.removal⟩ }) ∧
      (on = true → given → v.slot = none →
        (∀ k ∈ (s.governorCfg g).standby, ¬ passes k) ∨ ((s.attempt g w).governor g).slot ≠ none →
          s.trigger g w = s.attempt g w)) ∧
    (let v := s.governor g
      let on := (s.governorCfg g).autoChangeover
      let warnCounts := v.deferred.warn = true ∧ ∃ l, v.lead = some l ∧ (s.holder l.holder).limit = .lowWarn
      let ceilingCounts := v.deferred.ceiling = true ∧ v.short = true
      let removalCounts := v.deferred.removal = true ∧ v.status = .unfed
      let emptied := s.setGovernor g { v with deferred := noTriggers }
      (on = false ∨ (¬ warnCounts ∧ ¬ ceilingCounts ∧ ¬ removalCounts) → s.takeDeferred g = emptied) ∧
      (∀ x : Triggers, on = true → warnCounts ∨ ceilingCounts ∨ removalCounts → (x.warn = true ↔ warnCounts) →
        (x.ceiling = true ↔ ceilingCounts) → (x.removal = true ↔ removalCounts) → s.takeDeferred g = emptied.attempt g x) ∧
      (((s.sendRule g).governor g).slot ≠ none → s.slotFreed g = s.sendRule g) ∧
      (v.slot = none → (∀ o ∈ s.book.orders, o.isSendFor g = true → o.state ≠ .queued) →
        ((s.takeDeferred g).governor g).slot ≠ none → s.slotFreed g = s.takeDeferred g))

/-- An AMEND of service to OUT is refused with LEAD_IN_USE while the holder leads a governor. Otherwise every FILL on it that
is not ENDED and every QUEUED or CHANGING SEND naming it ends TAKEN_OUT, its inlet and the outlets of changeovers to it are
commanded SHUT, and no changeover to it stays in flight (R21, R80, R97). Of a holder already OUT it changes no order.
A request row is taken whatever the receiver state (model's choice: log entry 8). -/
def Obligations.TakingAHolderOut : Prop :=
  ∀ (h : HolderId) (s : State), s.power = .up → s.ConfigurationsSound → s.BookSound →
    ((s.holder h).service = .inUse → (∃ g, s.leads h g = true) →
      exec (.amend 1 (h.val + 1) [(21, 1)]) s = .next (s.replying (bytes [4, 10, 21]))) ∧
    ((s.holder h).service = .inUse → (∀ g, s.leads h g = false) →
      Answers (.amend 1 (h.val + 1) [(21, 1)]) s fun t =>
        t.holder h = { s.holder h with service := .out } ∧
        (∀ o ∈ s.book.orders, o.holder = h → o.isEnded = false → o.isFill = true ∨ o.state = .queued ∨ o.state = .changing →
          ∃ o' ∈ t.book.orders, o'.number = o.number ∧ o'.state = .ended .takenOut) ∧
        (t.valve (inletOf h)).state.opens = false ∧
        ∀ g, t.changingTo h g = false ∧ (s.changingTo h g = true → (s.valveCfg (outletOf h g)).fitted = true →
          (t.valve (outletOf h g)).state.opens = false)) ∧
    ((s.holder h).service = .out → Answers (.amend 1 (h.val + 1) [(21, 1)]) s fun t =>
      t.holders = s.holders ∧ t.book = s.book ∧ t.valves = s.valves ∧ t.governors = s.governors)

/-! ## District pressure control (chapter 6) -/

/-- An expiry of an adjust timer restarts it and moves the trim as R118's table says, by the governor as it stands before or,
where the silent retry goes first, after that retry (R117); the moved trim is clamped to its limit; request, combining and
taken setpoint stay. The silent retry does nothing unless ceiling retry and ceiling short are both set, changeovers are ON
and the slot is free (R96). A trim step behind a retry that changed the lead takes no CEILING trigger: lead, slot and deferred
triggers stay as the retry left them (R93).
That the RAISE guard tests the condition of SUPPLY_LIMITED, whatever its enable, is the model's reading (log entry 28); the
order of step and retry is free (log entry 4). -/
def Obligations.AdjustTimerStepsTheTrim : Prop :=
  ∀ (g : GovernorId) (s : State), s.power = .up →
    let c := s.governorCfg g
    let table : State → Int → Prop := fun u trim =>
      let v := u.governor g
      let limited := ∃ x, v.ceiling = some x ∧ x < min v.desired (c.maxSetpoint : Int)
      if v.request = .raise ∧ v.stationMode ≠ some .localMode ∧ v.commanded < c.maxSetpoint ∧ ¬ limited then
        trim = max (-(c.trimLimit : Int)) (min (c.trimLimit : Int) (v.trim + c.step))
      else if v.request = .lower ∧ v.stationMode ≠ some .localMode ∧ c.minSetpoint < v.commanded then
        trim = max (-(c.trimLimit : Int)) (min (c.trimLimit : Int) (v.trim - c.step))
      else trim = v.trim
    let retried := s.silentRetry g
    (Answers (.adjustTimerExpiry g) s fun t =>
      (table s (t.governor g).trim ∨
        table retried (t.governor g).trim ∧
          ((retried.governor g).lead ≠ (s.governor g).lead →
            (t.governor g).lead = (retried.governor g).lead ∧ (t.governor g).slot = (retried.governor g).slot ∧
              (t.governor g).deferred = (retried.governor g).deferred)) ∧ (t.governor g).adjustSince = s.now ∧
        (t.governor g).request = (s.governor g).request ∧ (t.governor g).combining = (s.governor g).combining ∧
        (t.governor g).taken = (s.governor g).taken ∧ (t.governor g).stationMode = (s.governor g).stationMode) ∧
    ((s.governor g).retry = false ∨ (s.governor g).short = false ∨ c.autoChangeover = false ∨ (s.governor g).slot ≠ none →
      s.silentRetry g = s)

/-- A district's evaluation and its governor's combination. The far-end reading is the lowest usable pressure, the margin that
less F_min, the request RAISE below 0, HOLD up to the band, LOWER above; with no usable point the district is blind and asks
HOLD (R105 to R107). A governor serving two districts combines by SECURE or ECONOMY, in BALANCED by the margins, and one
serving fewer takes that request or HOLD (R111, R112). -/
def Obligations.DistrictsAreJudgedAndCombined : Prop :=
  (∀ (d : DistrictId) (s : State),
    let t := s.evaluateDistrict d
    let usable : Nat → Prop := fun p => ∃ st ∈ s.line.roster, st.link = .active ∧ ∃ k q,
      st.cfg.kind = .point d k ∧ st.answer = some (.point q true) ∧ p = min 10000 q
    (∀ p, usable p → (∀ q, usable q → p ≤ q) →
      let m : Int := (p : Int) - (s.districtCfg d).fMin
      (t.district d).farEnd = some p ∧ (t.district d).margin = some m ∧ (t.district d).blind = false ∧
        (m < 0 → (t.district d).request = .raise) ∧
        (0 ≤ m → m ≤ (s.districtCfg d).band → (t.district d).request = .hold) ∧
        (((s.districtCfg d).band : Int) < m → (t.district d).request = .lower)) ∧
    ((∀ p, ¬ usable p) →
      (t.district d).farEnd = none ∧ (t.district d).margin = none ∧ (t.district d).blind = true ∧
        (t.district d).request = .hold) ∧
    (((t.district d).request ≠ (s.district d).request ∨ (t.district d).margin ≠ (s.district d).margin ∨
        (t.district d).blind ≠ (s.district d).blind) →
      t = (s.setDistrict d (t.district d)).recombine (s.districtCfg d).governor)) ∧
  (∀ (g : GovernorId) (s : State),
    let v := (s.recombine g).governor g
    (s.served g = [] → v.request = .hold) ∧
    (∀ d, s.served g = [d] → v.request = (s.district d).request ∧
      ((s.governorCfg g).mode = .balanced → v.combining = .secure)) ∧
    (∀ d e, s.served g = [d, e] →
      let x := s.district d
      let y := s.district e
      (v.combining = .secure → (v.request = .raise ↔ x.request = .raise ∨ y.request = .raise) ∧
        (v.request = .lower ↔ x.request = .lower ∧ y.request = .lower)) ∧
      (v.combining = .economy → (v.request = .raise ↔ x.request = .raise ∧ y.request = .raise) ∧
        (v.request = .lower ↔ x.request = .lower ∨ y.request = .lower)) ∧
      ((s.governorCfg g).mode = .secure → v.combining = .secure) ∧
      ((s.governorCfg g).mode = .economy → v.combining = .economy) ∧
      ((s.governorCfg g).mode = .balanced → x.blind = true ∨ y.blind = true → v.combining = .secure) ∧
      (∀ m n : Int, (s.governorCfg g).mode = .balanced → x.blind = false → y.blind = false → x.margin = some m →
        y.margin = some n → (v.combining = .secure ↔ (m - n).natAbs < (s.governorCfg g).balanceBand))))

/-! ## Yard valves (chapter 3) -/

/-- A command to a valve (R43, R45, R46): a valve already there or on its way, and one that is not fitted, is left as it is;
any other starts a motion with the drive asserted and its travel timer started with the limit in the record, or arrives at
once where the target pattern already stands; no other record is touched. -/
def Obligations.ValveCommandsFollowTheTable : Prop :=
  ∀ (s : State) (v : ValveId),
    ((s.valveCfg v).fitted = false → s.command v .toOpen = s ∧ s.command v .toShut = s) ∧
    ((s.valve v).state = .opening ∨ (s.valve v).state = .opened → s.command v .toOpen = s) ∧
    ((s.valve v).state = .shut ∨ (s.valve v).state = .closing → s.command v .toShut = s) ∧
    ((s.valveCfg v).fitted = true → (s.valve v).state.opens = false →
      s.command v .toOpen = s.setValve v
        (if s.openSwitch v = .made ∧ s.shutSwitch v = .broken then ⟨.opened, .off, none⟩
        else ⟨.opening, .toOpen, some ⟨(s.valveCfg v).travelLimit, s.now⟩⟩)) ∧
    ((s.valveCfg v).fitted = true → (s.valve v).state ≠ .shut → (s.valve v).state ≠ .closing →
      s.command v .toShut = s.setValve v
        (if s.shutSwitch v = .made ∧ s.openSwitch v = .broken then ⟨.shut, .off, none⟩
        else ⟨.closing, .toShut, some ⟨(s.valveCfg v).travelLimit, s.now⟩⟩))

/-- A travel timer that expires in motion puts the valve in FAULT TRAVEL, its drive off, VALVE_FAULT pending (R48). A counted
change of an end switch takes a valve into FAULT BOTH_SWITCHES or UNBIDDEN, to SHUT at its arrival or recovery there, or
leaves it, as the table of R50 says; an unfitted valve's change does nothing (R43, R47, R49 to R52). A FAULT valve recovered
to OPEN stays there only where its purpose stands, and is commanded SHUT otherwise: an inlet with no FILL in OPENING, or on a
holder OUT or in HIGH_STOP, an outlet of no lead and no changeover, or on a holder in LOW_STOP (R20, R69, R90). An outlet that
enters FAULT leaves its holder neither lead nor in a changeover of the governor: a CHANGING SEND ends VALVE_FAULT, an automatic
changeover is abandoned, either with CHANGEOVER_FAILED and the lead kept, and the slot free where no SEND and no trigger takes
it (R72, R97); a lead is removed, the governor UNFED with no ceiling unless an attempt follows, and its LEADING order ends
VALVE_FAULT (R89). A holder that leads and is in a changeover on one outlet at once, which no run reaches, is left out.
Both switches MADE is the FAULT of R49 in every state, also where the table's cell gives no change (log entry 33).
An expiry row sent as a command acts whatever the time elapsed (model's choice: log entry 3). -/
def Obligations.ValveEventsFollowTheTables : Prop :=
  (∀ (v : ValveId) (s : State), s.power = .up →
    (∀ h g, v = outletOf h g → s.leads h g = false ∨ s.changingTo h g = false) →
    ((s.valve v).state = .opening ∨ (s.valve v).state = .closing →
      Answers (.travelTimerExpiry v) s fun t => t.valve v = ⟨.fault .travel, .off, none⟩ ∧
        (s.AlertsSound → (s.valveCfg v).fitted = true → s.enabled .valveFault = true → t.isPending .valveFault (v.val + 1))) ∧
    ((s.valve v).state ≠ .opening → (s.valve v).state ≠ .closing →
      Answers (.travelTimerExpiry v) s fun t => t.valves = s.valves ∧ t.book = s.book ∧ t.governors = s.governors)) ∧
  (∀ (v : ValveId) (c : ContactId) (x : ContactChange) (s : State), s.power = .up →
    c = .openSwitch v ∨ c = .shutSwitch v → (s.contact c).change = some x →
    (∀ h g, v = outletOf h g → s.leads h g = false ∨ s.changingTo h g = false) →
      Answers (.debounceExpiry c) s fun t =>
        let st := (s.valve v).state
        let isOpen := t.openSwitch v
        let isShut := t.shutSwitch v
        ((s.valveCfg v).fitted = false → t.valves = s.valves ∧ t.book = s.book ∧ t.governors = s.governors) ∧
        ((s.valveCfg v).fitted = true →
          (isOpen = .made → isShut = .made → st.isFault = false → t.valve v = ⟨.fault .bothSwitches, .off, none⟩) ∧
          (st = .opened → c = .openSwitch v → isOpen = .broken → t.valve v = ⟨.fault .unbidden, .off, none⟩) ∧
          (st = .shut → c = .shutSwitch v → isShut = .broken → t.valve v = ⟨.fault .unbidden, .off, none⟩) ∧
          (st.isFault = true → isOpen = .made → isShut = .broken →
            let stays := t.valve v = ⟨.opened, .off, none⟩
            let closes := t.valve v = ⟨.closing, .toShut, some ⟨(s.valveCfg v).travelLimit, s.now⟩⟩
            (∀ h, v = inletOf h →
              let behind := (∃ o ∈ s.book.orders, o.isFill = true ∧ o.holder = h ∧ o.state = .opening) ∧
                (s.holder h).limit ≠ .highStop ∧ (s.holder h).service = .inUse
              (behind → stays) ∧ (¬ behind → closes)) ∧
            (∀ h g, v = outletOf h g →
              let behind := (s.leads h g = true ∨ s.changingTo h g = true) ∧ (s.holder h).limit ≠ .lowStop
              (behind → stays) ∧ (¬ behind → closes))) ∧
          (st = .closing ∨ st.isFault = true → isShut = .made → isOpen = .broken → t.valve v = ⟨.shut, .off, none⟩) ∧
          (st = .opened → (c = .openSwitch v ∧ isOpen = .made) ∨ c = .shutSwitch v → ¬ (isOpen = .made ∧ isShut = .made) →
            t.valves = s.valves) ∧
          (st = .shut → (c = .shutSwitch v ∧ isShut = .made) ∨ c = .openSwitch v → ¬ (isOpen = .made ∧ isShut = .made) →
            t.valves = s.valves) ∧
          (st = .closing → ¬ (isOpen = .made ∧ isShut = .made) → ¬ (isShut = .made ∧ isOpen = .broken) →
            t.valves = s.valves) ∧
          (st = .opening → ¬ (isOpen = .made ∧ isShut = .made) → ¬ (isOpen = .made ∧ isShut = .broken) →
            t.valves = s.valves) ∧
          (st.isFault = true → ¬ (isShut = .made ∧ isOpen = .broken) → ¬ (isOpen = .made ∧ isShut = .broken) →
            t.valves = s.valves))) ∧
  (∀ (h : HolderId) (g : GovernorId) (c : Instr) (s t : State), s.power = .up → s.BookSound → s.SendsSound g →
    s.leads h g = false ∨ s.changingTo h g = false →
    c = .travelTimerExpiry (outletOf h g) ∨ c = .debounceExpiry (.openSwitch (outletOf h g)) ∨
      c = .debounceExpiry (.shutSwitch (outletOf h g)) →
    exec c s = .next t → (s.valve (outletOf h g)).state.isFault = false → (t.valve (outletOf h g)).state.isFault = true →
    let v := s.governor g
    let w := t.governor g
    let off := (s.governorCfg g).autoChangeover = false
    let ends : Order → Prop := fun o => ∃ o' ∈ t.book.orders, o'.number = o.number ∧ o'.state = .ended .valveFault ∧
      o'.endStock = (s.holder o.holder).stock
    t.leads h g = false ∧ t.changingTo h g = false ∧
    (∀ o ∈ s.book.orders, v.slot = some ⟨h, .order o.number⟩ → ends o) ∧
    (∀ made, v.slot = some ⟨h, made⟩ →
      (s.enabled .changeoverFailed = true → t.isPending .changeoverFailed (g.val + 1)) ∧
      ((∀ o ∈ s.book.orders, o.isSendFor g = true → o.state ≠ .queued) → v.deferred = noTriggers →
        made ≠ .automatic ∨ v.status ≠ .unfed ∨ off → w.lead = v.lead ∧ w.slot = none)) ∧
    (s.leads h g = true →
      (∀ o ∈ s.book.orders, o.isSendFor g = true → o.state = .leading → ends o) ∧
      (off ∨ v.slot ≠ none → w.lead = none ∧ w.slot = v.slot ∧ w.status = .unfed ∧ w.ceiling = none ∧
        w.short = false ∧ w.retry = false ∧
        (s.AlertsSound → s.enabled .unfed = true → t.isPending .unfed (g.val + 1))) ∧
      (¬ off → v.slot ≠ none → w.deferred = { v.deferred with removal := true })) ∧
    (s.leads h g = false → s.changingTo h g = false → w.lead = v.lead ∧ w.slot = v.slot ∧ t.book = s.book))

/-! ## Gauges and contacts (chapter 1) -/

/-- A step of a holder's encoder is decoded by the table of R6: a rising step adds one, held at T, a falling one takes one,
held at 0, and a dropped or illegal step makes GOOD DOUBTFUL and leaves the count; the new pair becomes the last seen (R6
to R8). A pair equal to the last seen is no step.
That a pair equal to the last seen is no step is the model's reading (log entry 29). -/
def Obligations.EncoderStepsAreDecoded : Prop :=
  ∀ (h : HolderId) (p : PhasePair) (s : State), s.power = .up →
    let x := s.holder h
    let total := (s.holderCfg h).totalStroke
    let rising := [((false, false), (true, false)), ((true, false), (true, true)), ((true, true), (false, true)),
      ((false, true), (false, false))]
    let step := ((x.phases.a, x.phases.b), (p.a, p.b))
    let doubted : GaugeStatus := if x.status = .good then .doubtful else x.status
    Answers (.encoderStep h p) s fun t =>
      (t.holder h).phases = p ∧
      (step ∈ rising → x.height < total → (t.holder h).height = x.height + 1 ∧ (t.holder h).status = x.status) ∧
      (step ∈ rising → total ≤ x.height → (t.holder h).height = x.height ∧ (t.holder h).status = doubted) ∧
      (step.swap ∈ rising → 0 < x.height → (t.holder h).height = x.height - 1 ∧ (t.holder h).status = x.status) ∧
      (step.swap ∈ rising → x.height = 0 → (t.holder h).height = 0 ∧ (t.holder h).status = doubted) ∧
      (p.a ≠ x.phases.a → p.b ≠ x.phases.b → (t.holder h).height = x.height ∧ (t.holder h).status = doubted) ∧
      (p = x.phases → t.holder h = x ∧ t.valves = s.valves ∧ t.book = s.book)

/-- A raw change of a contact's level: away from the debounced state it starts a pending change with the new level, back to it
it drops the pending change (R9). A pending change that has been steady for the debounce time counts: the debounced state
takes its level and the pending change is dropped; with none pending nothing counts (R9). An AMEND of the debounce time
counts, at once, every pending change already steady for the new time, and leaves every other to it (R9).
That an AMEND to the time already in force counts none is the model's choice (log entry 7).
A request row is taken whatever the receiver state (model's choice: log entry 8).
An expiry row sent as a command acts whatever the time elapsed (model's choice: log entry 3).
A change to the level already there changes nothing (log entry 29). -/
def Obligations.ContactsAreDebounced : Prop :=
  ∀ (c : ContactId) (s : State), s.power = .up →
    (∀ l, (s.contact c).raw ≠ l → (s.contact c).debounced = some l →
      exec (.contactRawChange (.contact c) l) s = .next (s.setContact c ⟨l, some l, none⟩)) ∧
    (∀ l, (s.contact c).raw ≠ l → (s.contact c).debounced ≠ some l →
      exec (.contactRawChange (.contact c) l) s = .next (s.setContact c ⟨l, (s.contact c).debounced, some ⟨l, s.now⟩⟩)) ∧
    exec (.contactRawChange (.contact c) (s.contact c).raw) s = .next s ∧
    (∀ x, (s.contact c).change = some x → Answers (.debounceExpiry c) s fun t =>
      t.contact c = ⟨(s.contact c).raw, some x.level, none⟩) ∧
    ((s.contact c).change = none → Answers (.debounceExpiry c) s fun t =>
      t.contacts = s.contacts ∧ t.holders = s.holders ∧ t.valves = s.valves ∧ t.book = s.book ∧ t.governors = s.governors) ∧
    ∀ n : Nat, 10 ≤ n → n ≤ 500 → s.ConfigurationsSound → Answers (.amend 8 0 [(1, (n : Int))]) s fun t =>
      t.settings = { s.settings with yard := { s.settings.yard with debounce := n } } ∧
      (n = s.yardCfg.debounce → t.contact c = s.contact c) ∧
      (n ≠ s.yardCfg.debounce → (s.contact c).change = none → t.contact c = s.contact c) ∧
      ∀ x, n ≠ s.yardCfg.debounce → (s.contact c).change = some x →
        (x.since + n ≤ s.now → t.contact c = ⟨(s.contact c).raw, some x.level, none⟩) ∧
        (s.now < x.since + n → t.contact c = s.contact c)

/-- A closing of the landed contact sets the count to 0 and the status to GOOD. A closing of the mark contact, in GOOD or
DOUBTFUL, takes the mark height nearest the count, of two the lower, and sets the count to it with status GOOD within the
mark tolerance, or makes the status SLIPPED beyond it; in UNSET or SLIPPED, or with no mark, it has no effect, nor has an
opening of either (R9 to R11). -/
def Obligations.LandingsAndMarksCorrectTheGauge : Prop :=
  ∀ (h : HolderId) (since : Nat) (s : State), s.power = .up →
    let x := s.holder h
    let c := s.holderCfg h
    let apart : Nat → Nat := fun m => ((x.height : Int) - m).natAbs
    let nearest : Nat → Prop := fun m =>
      m ∈ c.marks ∧ ∀ m' ∈ c.marks, apart m < apart m' ∨ (apart m = apart m' ∧ m ≤ m')
    ((s.contact (.landed h)).change = some ⟨.closed, since⟩ → Answers (.debounceExpiry (.landed h)) s fun t =>
      (t.holder h).height = 0 ∧ (t.holder h).status = .good) ∧
    ((s.contact (.mark h)).change = some ⟨.closed, since⟩ → Answers (.debounceExpiry (.mark h)) s fun t =>
      (∀ m, nearest m → x.status = .good ∨ x.status = .doubtful → apart m ≤ c.markTolerance →
        (t.holder h).height = m ∧ (t.holder h).status = .good) ∧
      (∀ m, nearest m → x.status = .good ∨ x.status = .doubtful → c.markTolerance < apart m →
        (t.holder h).height = x.height ∧ (t.holder h).status = .slipped ∧ (t.holder h).stock = none) ∧
      (c.marks = [] ∨ x.status = .unset ∨ x.status = .slipped → t.holder h = x)) ∧
    (∀ k, k = ContactId.landed h ∨ k = ContactId.mark h → (s.contact k).change = some ⟨.opened, since⟩ →
      Answers (.debounceExpiry k) s fun t => t.holder h = x ∧ t.valves = s.valves ∧ t.book = s.book)

/-- An AMEND of a gauge height within 0 to T sets the count and status GOOD, makes stock present, and re-evaluates the limit
condition by the table of R15 where height or status changed; above T it is refused with BAD_VALUE naming the field (R12 to
R16). Stock that becomes present keeps a mean CV that is present, and otherwise has the declared CV, clamped (R40).
A request row is taken whatever the receiver state (model's choice: log entry 8). -/
def Obligations.GaugeHeightAmendSetsTheGauge : Prop :=
  ∀ (h : HolderId) (v : Nat) (s : State), s.power = .up → s.ConfigurationsSound → s.GaugesSound →
    let x := s.holder h
    let c := s.holderCfg h
    (v ≤ c.totalStroke → Answers (.amend 1 (h.val + 1) [(22, (v : Int))]) s fun t =>
      (t.holder h).height = v ∧ (t.holder h).status = .good ∧ (t.holder h).stock.isSome = true ∧
        (t.holder h).service = x.service ∧ t.settings = s.settings ∧
        (x.stock = none → (t.holder h).meanCv =
          some (x.meanCv.getD (max s.yardCfg.cvFloor (min s.yardCfg.cvCeiling s.yardCfg.declaredCv)))) ∧
        t.port.reply = some (bytes [4, 0, 1, 0, h.val + 1] ++ t.encodeHolder h) ∧
        (v ≠ x.height ∨ x.status ≠ .good →
          let inLow := v ≤ c.lowStop ∨ (x.limit = .lowStop ∧ v < c.lowStop + c.hysteresis)
          let inHigh := c.highStop ≤ v ∨ (x.limit = .highStop ∧ (c.highStop : Int) - c.hysteresis < v)
          (t.holder h).limit = if inLow then .lowStop else if inHigh then .highStop else if v ≤ c.lowWarn then .lowWarn
            else if c.highWarn ≤ v then .highWarn else .normal)) ∧
    (c.totalStroke < v → exec (.amend 1 (h.val + 1) [(22, (v : Int))]) s = .next (s.replying (bytes [4, 3, 22])))

/-! ## Stock (chapter 2) -/

/-- The stock unit's arithmetic. Geometric volume: 0 at height 0, and each millimetre adds the area of the lift that rises,
which is then floating (R24, R25). Vapour pressure: between two table points by linear interpolation truncated toward zero
(R26). Standard correction: the exact quotient rounded half up, its inputs clamped (R27, R28). Mixing: the weighted mean
rounded half up, between the two CVs, or the make CV where there was no gas or no CV (R39). A recomputation mixes exactly where
the inlet is OPEN and stock, present before and after, has risen, by the rise and the make CV in use (R39); stock that becomes
present gives an absent mean CV the declared CV, clamped (R40); otherwise the mean CV is kept. So does an encoder step. -/
def Obligations.StockArithmetic : Prop :=
  (∀ (c : HolderSettings) (i : Fin 4) (h : Nat), c.Sound → i.val < c.lifts → c.boundary i ≤ h →
    h < c.boundary i + c.stroke[i] →
      c.volume 0 = 0 ∧ c.volume (h + 1) = c.volume h + c.area[i] ∧ c.floatingAt (h + 1) = i.val + 1 ∧
        c.pressureAt (c.floatingAt (h + 1)) = c.pressure[i] ∧ c.pressureAt (c.floatingAt 0) = 0) ∧
  (∀ (i k lo hi : Nat), vapourTable[i]? = some lo → vapourTable[i + 1]? = some hi → k < 100 →
    lo ≤ vapour ((100 * i + k : Nat) - 300 : Int) ∧
      100 * (vapour ((100 * i + k : Nat) - 300 : Int) - lo) ≤ (hi - lo) * k ∧
      (hi - lo) * k < 100 * (vapour ((100 * i + k : Nat) - 300 : Int) - lo) + 100) ∧
  vapour 500 = 12350 ∧
  (∀ (litres gauge : Nat) (temp : Int) (barometer : Nat),
    let t : Int := max (-300) (min 500 temp)
    let p : Int := (max 85000 (min 108000 barometer) : Nat) + (min 10000 gauge : Nat) - (vapour t : Int)
    let num : Int := litres * p * 2882
    let den : Int := 101325 * (2732 + t) * 1000
    let q : Int := standardVolume litres gauge temp barometer
    0 < p ∧ 0 < den ∧ (2 * q - 1) * den ≤ 2 * num ∧ 2 * num < (2 * q + 1) * den) ∧
  (∀ v cv rise make : Nat, 0 < v →
    min cv make ≤ mixedCv v (some cv) rise make ∧ mixedCv v (some cv) rise make ≤ max cv make ∧
      2 * (v * cv + rise * make) < (2 * mixedCv v (some cv) rise make + 1) * (v + rise) ∧
      2 * (mixedCv v (some cv) rise make) * (v + rise) ≤ 2 * (v * cv + rise * make) + (v + rise)) ∧
  (∀ v cv rise make : Nat, mixedCv 0 (some cv) rise make = make ∧ mixedCv v none rise make = make) ∧
  (∀ (evaluates : Bool) (h : HolderId) (s : State),
    let x := s.holder h
    let y := (s.recompute evaluates h).holder h
    (∀ v w, x.stock = some v → y.stock = some w → y.meanCv =
      if (s.valve (inletOf h)).state = .opened ∧ v < w then some (mixedCv v x.meanCv (w - v) s.makeCv) else x.meanCv) ∧
    (x.stock = none → y.stock ≠ none → y.meanCv =
      some (x.meanCv.getD (max s.yardCfg.cvFloor (min s.yardCfg.cvCeiling s.yardCfg.declaredCv)))) ∧
    (y.stock = none → y.meanCv = x.meanCv)) ∧
  (∀ (h : HolderId) (p : PhasePair) (s : State), s.power = .up → Answers (.encoderStep h p) s fun t =>
    let x := s.holder h
    let y := t.holder h
    (∀ v w, x.stock = some v → y.stock = some w → y.meanCv =
      if (s.valve (inletOf h)).state = .opened ∧ v < w then some (mixedCv v x.meanCv (w - v) s.makeCv) else x.meanCv) ∧
    (y.stock = none → y.meanCv = x.meanCv))

/-! ## The field line (chapter 7) -/

/-- The end of a call. A good answer from the station called sets its miss count 0, its link ACTIVE and its last answer
(R133, R135); a timeout, or a frame that is broken or not that station's, counts a miss, LOST from the third on (R134). The
gap follows, and no other station changes. A call whose station was retired, and perhaps enrolled again, ends at its timeout
or at any complete frame with nothing changed but the gap begun; bytes that complete no frame end nothing, and bytes outside
a wait are discarded (R129, R132).
That bytes which complete no frame are not kept is the model's reading (log entry 25). -/
def Obligations.CallsEndInAnAnswerOrAMiss : Prop :=
  ∀ (k : Call) (since : Nat) (s : State), s.power = .up → s.line.activity = .waiting k since →
    (∀ st : Station, s.station k.address = some st → k.discarded = false →
      let missed : State → Prop := fun t =>
        t.station k.address = some { st with
          misses := min 255 (st.misses + 1)
          link := if 2 ≤ st.misses then .lost else st.link } ∧
        t.line.activity = .gap s.now ∧ ∀ a, a ≠ k.address → t.station a = s.station a
      (∀ (body : List Byte) (x : Answer), 1 ≤ body.length → body.length ≤ 250 →
        judgeAnswer k.address k.kind body = some x → Answers (.answerReceived (frameOf body)) s fun t =>
          t.station k.address = some { st with misses := 0, link := .active, answer := some x } ∧
            t.line.activity = .gap s.now ∧ ∀ a, a ≠ k.address → t.station a = s.station a) ∧
      (∀ body : List Byte, 1 ≤ body.length → body.length ≤ 250 → judgeAnswer k.address k.kind body = none →
        Answers (.answerReceived (frameOf body)) s missed) ∧
      (∀ bs : List Byte, receive bs = .broken → Answers (.answerReceived bs) s missed) ∧
      Answers .answerTimeout s missed) ∧
    (k.discarded = true ∨ s.station k.address = none →
      let ended : State → Prop := fun t => t.line = { s.line with activity := .gap s.now } ∧ t.holders = s.holders ∧
        t.conditions = s.conditions ∧ t.governors = s.governors ∧ t.districts = s.districts ∧ t.accounts = s.accounts ∧
        t.yard = s.yard ∧ t.valves = s.valves ∧ t.book = s.book
      Answers .answerTimeout s ended ∧
        ∀ bs : List Byte, receive bs ≠ .incomplete → Answers (.answerReceived bs) s ended) ∧
    (∀ bs : List Byte, receive bs = .incomplete → Answers (.answerReceived bs) s fun t => t.line = s.line) ∧
    ∀ (bs : List Byte) (u : State), u.power = .up → (∀ m n, u.line.activity ≠ .waiting m n) →
      (Answers (.answerReceived bs) u fun t => t.line = u.line) ∧ Answers .answerTimeout u fun t => t.line = u.line

/-- What a good GOVERNOR, a good YARD and a good POINT answer do. The governor's taken setpoint and station mode are the answer's, and the
not-following count rises, held at 3, unless the taken setpoint is the value carried in the call (R120 to R122). The
barometer in use and each temperature in use become those of the answer, clamped, their assumed flags clear; a holder with
no sensor keeps its temperature and has its flag set (R31, R32). A POINT answer evaluates its district, with the station's
answer in place: the far-end reading is present and at most a good sensor's pressure; POINT_FAULT is pending exactly while
the sensor reports FAULT (R105, R106, R136, R139). -/
def Obligations.GovernorAndYardAnswersAct : Prop :=
  (∀ (g : GovernorId) (k : Call) (since taken : Nat) (mode : StationMode) (body : List Byte) (st : Station) (s : State),
    s.power = .up → s.line.activity = .waiting k since → s.station k.address = some st → k.discarded = false →
    st.cfg.kind = .governor g → 1 ≤ body.length → body.length ≤ 250 →
    judgeAnswer k.address k.kind body = some (.governor taken mode) →
      Answers (.answerReceived (frameOf body)) s fun t =>
        t.governor g = { s.governor g with
          taken := some (min 10000 taken)
          stationMode := some mode
          notFollowing := if k.carried = some (min 10000 taken) then 0 else min 3 ((s.governor g).notFollowing + 1) } ∧
        (∀ g', g' ≠ g → t.governor g' = s.governor g') ∧ t.valves = s.valves ∧ t.book = s.book) ∧
  (∀ (barometer : Nat) (temps : Vector (Option Int) 4) (k : Call) (since : Nat) (body : List Byte) (st : Station) (s : State),
    s.power = .up → s.line.activity = .waiting k since → s.station k.address = some st → k.discarded = false →
    st.cfg.kind = .yard → 1 ≤ body.length → body.length ≤ 250 →
    judgeAnswer k.address k.kind body = some (.yard barometer temps) →
      Answers (.answerReceived (frameOf body)) s fun t =>
        t.conditions = { s.conditions with barometer := max 85000 (min 108000 barometer), barometerAssumed := false } ∧
        ∀ h : HolderId, (t.holder h).height = (s.holder h).height ∧ (t.holder h).limit = (s.holder h).limit ∧
          match temps[h] with
          | some x => (t.holder h).gasTemp = max (-300) (min 500 x) ∧ (t.holder h).assumed = false
          | none => (t.holder h).gasTemp = (s.holder h).gasTemp ∧ (t.holder h).assumed = true) ∧
  (∀ (d : DistrictId) (place : Fin 3) (pressure : Nat) (good : Bool) (k : Call) (since : Nat) (body : List Byte) (st : Station)
      (s : State),
    s.power = .up → s.line.activity = .waiting k since → s.station k.address = some st → k.discarded = false →
    st.cfg.kind = .point d place → 1 ≤ body.length → body.length ≤ 250 →
    judgeAnswer k.address k.kind body = some (.point pressure good) →
      let u := (s.putStation { st with misses := 0, link := .active, answer := some (.point pressure good) }).evaluateDistrict d
      Answers (.answerReceived (frameOf body)) s fun t =>
        t.districts = u.districts ∧ t.governors = u.governors ∧ t.holders = s.holders ∧ t.valves = s.valves ∧
        t.book = s.book ∧ (∀ d', d' ≠ d → t.district d' = s.district d') ∧
        (good = true → (t.district d).blind = false ∧ ∃ q, (t.district d).farEnd = some q ∧ q ≤ min 10000 pressure ∧
          (t.district d).margin = some ((q : Int) - (s.districtCfg d).fMin)) ∧
        (s.AlertsSound → s.enabled .pointFault = true → (t.isPending .pointFault st.cfg.address ↔ good = false)))

/-- What a good DMETER answer does to its district's account, and a good MAKE answer to the yard's: a first answer only sets
the last index; an increment of 0 changes nothing; one above the maximum credible increment re-bases the index and raises
METER_JUMP; a credible one is corrected to standard volume and credited with its heat, a district's at the lead's mean CV, or
at the declared CV with the flag set, make-in's at its own CV clamped, nothing lost short of the limit of a figure (R145 to
R147, R149 to R152). A MAKE answer sets the make CV in use, whatever its increment (R38). -/
def Obligations.MeterAnswersAreCredited : Prop :=
  (∀ (d : DistrictId) (k : Call) (since index pressure : Nat) (temp : Int) (body : List Byte) (st : Station) (s : State),
    s.power = .up → s.line.activity = .waiting k since → s.station k.address = some st → k.discarded = false →
    st.cfg.kind = .dmeter d → 1 ≤ body.length → body.length ≤ 250 →
    judgeAnswer k.address k.kind body = some (.dmeter index pressure temp) →
    let a := s.account d
    let reached := index % 1000000
    let lead := (s.governor (s.districtCfg d).governor).lead
    Answers (.answerReceived (frameOf body)) s fun t =>
      (∀ d', d' ≠ d → t.account d' = s.account d') ∧
      (a.lastIndex = none → t.account d = { a with lastIndex := some reached }) ∧
      ∀ last, a.lastIndex = some last → last < 1000000 →
        let inc := if last ≤ reached then reached - last else reached + 1000000 - last
        (inc = 0 → t.account d = a) ∧
        (st.cfg.maxIncrement < inc → t.account d = { a with lastIndex := some reached } ∧
          (s.enabled .meterJump = true → t.isPending .meterJump st.cfg.address)) ∧
        (0 < inc → inc ≤ st.cfg.maxIncrement →
          let v := standardVolume (inc * 1000) pressure temp s.conditions.barometer
          let own := lead.bind fun l => (s.holder l.holder).meanCv
          let declared := max s.yardCfg.cvFloor (min s.yardCfg.cvCeiling s.yardCfg.declaredCv)
          let cv := own.getD declared
          let total := a.today.energy.mj * 1000 + a.today.energy.kj + v * cv
          (t.account d).lastIndex = some reached ∧ (t.account d).yesterday = a.yesterday ∧
            (t.account d).today.volume = min 999999999 (a.today.volume + v) ∧
            (t.account d).today.cvAssumed = (a.today.cvAssumed || own.isNone) ∧
            (a.today.energy.kj ≤ 999 → total < 1000000000000 →
              (t.account d).today.energy.mj * 1000 + (t.account d).today.energy.kj = total ∧
                (t.account d).today.energy.kj ≤ 999) ∧
            (a.today.energy.kj ≤ 999 → 1000000000000 ≤ total → (t.account d).today.energy = ⟨999999999, 999⟩))) ∧
  (∀ (k : Call) (since index pressure cv : Nat) (temp : Int) (body : List Byte) (st : Station) (s : State),
    s.power = .up → s.line.activity = .waiting k since → s.station k.address = some st → k.discarded = false →
    st.cfg.kind = .make → 1 ≤ body.length → body.length ≤ 250 →
    judgeAnswer k.address k.kind body = some (.make index pressure temp cv) →
    let y := s.yard
    let reached := index % 1000000
    let used := max s.yardCfg.cvFloor (min s.yardCfg.cvCeiling cv)
    Answers (.answerReceived (frameOf body)) s fun t =>
      t.conditions = { s.conditions with lastMakeCv := some cv } ∧ t.makeCv = used ∧ t.accounts = s.accounts ∧
      t.holders = s.holders ∧
      (y.lastMakeIndex = none → t.yard = { y with lastMakeIndex := some reached }) ∧
      ∀ last, y.lastMakeIndex = some last → last < 1000000 →
        let inc := if last ≤ reached then reached - last else reached + 1000000 - last
        (inc = 0 → t.yard = y) ∧
        (st.cfg.maxIncrement < inc → t.yard = { y with lastMakeIndex := some reached } ∧
          (s.enabled .meterJump = true → t.isPending .meterJump st.cfg.address)) ∧
        (0 < inc → inc ≤ st.cfg.maxIncrement →
          let v := standardVolume (inc * 1000) pressure temp s.conditions.barometer
          let total := y.makeEnergy.mj * 1000 + y.makeEnergy.kj + v * used
          t.yard.lastMakeIndex = some reached ∧ t.yard.opening = y.opening ∧ t.yard.closedDay = y.closedDay ∧
            t.yard.makeVolume = min 999999999 (y.makeVolume + v) ∧
            (y.makeEnergy.kj ≤ 999 → total < 1000000000000 →
              t.yard.makeEnergy.mj * 1000 + t.yard.makeEnergy.kj = total ∧ t.yard.makeEnergy.kj ≤ 999) ∧
            (y.makeEnergy.kj ≤ 999 → 1000000000000 ≤ total → t.yard.makeEnergy = ⟨999999999, 999⟩)))

/-- A frame of either line is received whole whatever follows it (R132, R186, R187), and the contents of an answer within
the widths of R192 and R193 read back as that answer. -/
def Obligations.AnswersReadBack : Prop :=
  (∀ body rest : List Byte, 1 ≤ body.length → body.length ≤ 250 → receive (frameOf body ++ rest) = .body body) ∧
  ∀ (address : Nat) (k : StationKind) (x : Answer), address < 256 →
    (match k, x with
      | .yard, .yard b temps =>
        b < 16777216 ∧ ∀ h : HolderId, temps[h].all (fun v => decide (-32768 < v ∧ v < 32767)) = true
      | .make, .make index p v cv => index < 16777216 ∧ p < 65536 ∧ -32768 < v ∧ v ≤ 32767 ∧ cv < 65536
      | .governor _, .governor taken _ => taken < 65536
      | .dmeter _, .dmeter index p v => index < 16777216 ∧ p < 65536 ∧ -32768 < v ∧ v ≤ 32767
      | .point _ _, .point p _ => p < 65536
      | _, _ => False) →
    judgeAnswer address k (beBytes 1 address ++ beBytes 1 k.number ++ x.encode) = some x

/-- The cycle of the field line (R121, R127, R130 to R132): an expiry of the cycle timer with no cycle running calls the station
at place 1, and with one running sets the owed flag; the end of the gap calls the station after the position, or ends the
cycle, which an owed cycle follows at once; the last byte of a call opens the wait. A call carries what is in force when it
is made: the answer timeout and, to a governor station, the commanded setpoint. -/
def Obligations.CyclesCallTheRosterInOrder : Prop :=
  ∀ s : State, s.power = .up →
    let callTo : Station → Call := fun st =>
      { address := st.cfg.address
        kind := st.cfg.kind
        carried := match st.cfg.kind with
          | .governor g => some (s.governor g).commanded
          | _ => none
        discarded := false
        timeout := s.yardCfg.answerTimeout }
    let begun : FieldLine → FieldLine := fun l =>
      match s.line.roster with
      | [] => { l with activity := .idle, position := 0 }
      | st :: _ => { l with activity := .sending (callTo st), position := 1 }
    (s.line.activity = .idle → Answers .cycleTimerExpiry s fun t => t.line = begun { s.line with cycleSince := s.now }) ∧
    (s.line.activity ≠ .idle → Answers .cycleTimerExpiry s fun t =>
      t.line = { s.line with cycleSince := s.now, owed := true } ∧
        (s.enabled .cycleOverrun = true → t.isPending .cycleOverrun 0)) ∧
    (∀ since, s.line.activity = .gap since → ∀ st, s.line.roster[s.line.position]? = some st →
      exec .gapEnd s =
        .next (s.setLine { s.line with activity := .sending (callTo st), position := s.line.position + 1 })) ∧
    (∀ since, s.line.activity = .gap since → s.line.roster.length ≤ s.line.position →
      exec .gapEnd s = .next (s.setLine (if s.line.owed = true then begun { s.line with owed := false }
        else { s.line with activity := .idle, position := 0 }))) ∧
    ((∀ since, s.line.activity ≠ .gap since) → exec .gapEnd s = .next s) ∧
    (∀ k, s.line.activity = .sending k → exec .callSent s = .next (s.setLine { s.line with activity := .waiting k s.now })) ∧
    ((∀ k, s.line.activity ≠ .sending k) → exec .callSent s = .next s)

/-- ENROL checks in the order of R128: BAD_VALUE, ROSTER_FULL, IN_USE for the address, IN_USE for the binding. An accepted
station joins the end of the roster UNHEARD with no miss and no answer, its increment the one given or 50,000, and the
owner of its binding starts it afresh (R123, R125, R126, R128, R148); a POINT station's district is evaluated (R106).
A request row is taken whatever the receiver state (model's choice: log entry 8). -/
def Obligations.EnrolChecksAndAdds : Prop :=
  ∀ (r : EnrolRequest) (s : State), s.power = .up →
    let refused : Nat → Prop := fun code => exec (.enrol r) s = .next (s.replying (bytes [8, code]))
    let kind := stationKindOf r.kind r.bindingA r.bindingB
    let meter := r.kind = 2 ∨ r.kind = 4
    let badValue := r.address = 0 ∨ 254 < r.address ∨ kind = none ∨
      ∃ m, r.maxIncrement = some m ∧ (¬ meter ∨ m = 0 ∨ 200000 < m)
    (badValue → refused 3) ∧
    (¬ badValue → 32 ≤ s.line.roster.length → refused 6) ∧
    (¬ badValue → s.line.roster.length < 32 →
      (∃ st ∈ s.line.roster, st.cfg.address = r.address ∨ some st.cfg.kind = kind) → refused 13) ∧
    (¬ badValue → s.line.roster.length < 32 →
      (∀ st ∈ s.line.roster, st.cfg.address ≠ r.address ∧ some st.cfg.kind ≠ kind) →
        ∀ k, kind = some k → Answers (.enrol r) s fun t =>
          t.line = { s.line with
            roster := s.line.roster ++ [⟨⟨r.address, k, r.maxIncrement.getD 50000⟩, .unheard, 0, none⟩] } ∧
          t.port.reply = some (bytes [8, 0]) ∧
          (∀ g, k = .governor g → (t.governor g).taken = none ∧ (t.governor g).stationMode = none ∧
            (t.governor g).notFollowing = 0) ∧
          (∀ d, k = .dmeter d → (t.account d).lastIndex = none ∧ (t.account d).today = (s.account d).today) ∧
          (k = .make → t.yard.lastMakeIndex = none) ∧ (k = .yard → t.conditions = s.conditions) ∧
          (∀ d place, k = .point d place → let u := (s.setLine t.line).evaluateDistrict d
            t.districts = u.districts ∧ t.governors = u.governors) ∧
          ((∀ d place, k ≠ .point d place) → t.districts = s.districts))

/-- RETIRE of a station refuses an address not in the roster with NO_SUCH_RECORD; otherwise the station leaves the roster, the
position of a running cycle follows, a call to it is marked discarded, and its owner is told (R123, R129, R131, R148); a POINT
station's district is evaluated without it (R106).
A request row is taken whatever the receiver state (model's choice: log entry 8). -/
def Obligations.RetireRemovesAStation : Prop :=
  ∀ (a : Nat) (s : State), s.power = .up → s.RostersSound →
    (s.station a = none → exec (.retireStation a) s = .next (s.replying (bytes [7, 1]))) ∧
    ∀ (before after : List Station) (st : Station), s.line.roster = before ++ st :: after → st.cfg.address = a →
      Answers (.retireStation a) s fun t =>
        t.line.roster = before ++ after ∧ t.station a = none ∧ t.port.reply = some (bytes [7, 0]) ∧
        t.line.position =
          (if s.line.activity ≠ .idle ∧ before.length < s.line.position then s.line.position - 1 else s.line.position) ∧
        (∀ k, s.line.activity = .sending k → k.address = a → t.line.activity = .sending { k with discarded := true }) ∧
        (∀ k since, s.line.activity = .waiting k since → k.address = a →
          t.line.activity = .waiting { k with discarded := true } since) ∧
        (st.cfg.kind = .yard → t.conditions = { s.conditions with barometerAssumed := true } ∧
          ∀ h : HolderId, t.holder h = { s.holder h with assumed := true }) ∧
        (st.cfg.kind = .make → t.yard.lastMakeIndex = none ∧ t.conditions = s.conditions) ∧
        (∀ d, st.cfg.kind = .dmeter d → (t.account d).lastIndex = none) ∧
        (∀ g, st.cfg.kind = .governor g → (t.governor g).taken = none ∧ (t.governor g).stationMode = none ∧
          (t.governor g).notFollowing = 0) ∧
        (∀ d place, st.cfg.kind = .point d place → let u := (s.setLine t.line).evaluateDistrict d
          t.districts = u.districts ∧ t.governors = u.governors) ∧
        ((∀ d place, st.cfg.kind ≠ .point d place) → t.districts = s.districts)

/-! ## Accounts and the clock (chapter 8) -/

/-- The increment of a meter answer is its index less the last index modulo 1,000,000, so 0 to 999,999; an increment of 0 sets
nothing (R146). -/
def Obligations.IncrementIsTheIndexDifference : Prop :=
  (∀ last index : Nat, increment last index < 1000000 ∧
    (increment last index : Int) = ((index : Int) - (last : Int)) % 1000000) ∧
  increment 999420 1310 = 1890 ∧
  (∀ (d : DistrictId) (st : StationSettings) (last index pressure : Nat) (temp : Int) (s : State),
    (s.account d).lastIndex = some last → increment last index = 0 → s.districtMeter d st index pressure temp = s) ∧
  (∀ (st : StationSettings) (last index pressure cv : Nat) (temp : Int) (s : State),
    s.yard.lastMakeIndex = some last → increment last index = 0 → s.makeMeter st index pressure temp cv = s)

/-- At each day close every district's today figures and flag become yesterday's and are cleared, with any CV_ASSUMED alert of
it, and its last index, meter station and far-end fields are not touched (R156): of the operation itself, and of a
CLOCK_ADVANCE that reaches the close minute. -/
def Obligations.DayCloseMovesTheDistrictFigures : Prop :=
  (∀ (s : State) (d : DistrictId),
    (s.dayClose.account d).yesterday = (s.account d).today ∧ (s.dayClose.account d).today = ⟨0, ⟨0, 0⟩, false⟩ ∧
      (s.dayClose.account d).lastIndex = (s.account d).lastIndex ∧ s.dayClose.district d = s.district d ∧
      s.dayClose.line = s.line) ∧
  ∀ s : State, s.power = .up → s.AlertsSound → nextMinute s.clock.minute = s.yardCfg.closeMinute →
    Answers .clockAdvance s fun t => ∀ d : DistrictId,
      (t.account d).yesterday = (s.account d).today ∧ (t.account d).today = ⟨0, ⟨0, 0⟩, false⟩ ∧
        (t.account d).lastIndex = (s.account d).lastIndex ∧ t.district d = s.district d ∧ t.line = s.line ∧
        ¬ t.isPending .cvAssumed (d.val + 1)

/-- CLOCK_ADVANCE moves the minute of day on, 1,439 followed by 0; at the close minute it strikes the balance of the day (R154,
R157, R158): the closed day carries the day index, opening stock, make-in and send-out as they stood, the closing stock
found from the holders, and the unaccounted figure where both stocks are present; the opening stock becomes the closing
stock, make-in becomes 0, the day index advances, 6 followed by 0. The closed day's send-out energy is
the sum of the districts', carried and held at its limit (R151, R153). BALANCE_INCOMPLETE is raised of an incomplete day, and
UNACCOUNTED_HIGH exactly where the unaccounted figure exceeds the tolerance. At any other minute the figures stay. -/
def Obligations.ClockAdvanceStrikesTheBalance : Prop :=
  ∀ s : State, s.power = .up →
    let closes := (if s.clock.minute < 1439 then s.clock.minute + 1 else 0) = s.yardCfg.closeMinute
    let sum := ((List.finRange 4).map fun h => (s.holder h).stock.getD 0).sum
    let energy := ((List.finRange 6).map fun d => (s.account d).today.energy.mj * 1000 + (s.account d).today.energy.kj).sum
    Answers .clockAdvance s fun t =>
      t.clock.minute = (if s.clock.minute < 1439 then s.clock.minute + 1 else 0) ∧ t.clock.isSet = s.clock.isSet ∧
      t.clock.since = s.now ∧ t.clock.minutesDown = s.clock.minutesDown ∧
      (¬ closes → t.clock.dayIndex = s.clock.dayIndex ∧ t.yard = s.yard ∧ t.accounts = s.accounts) ∧
      (closes → t.clock.dayIndex = (if s.clock.dayIndex < 6 then s.clock.dayIndex + 1 else 0) ∧
        t.yard.makeVolume = 0 ∧ t.yard.makeEnergy = ⟨0, 0⟩ ∧ t.yard.lastMakeIndex = s.yard.lastMakeIndex ∧
        ∃ c : ClosedDay, t.yard.closedDay = some c ∧ c.dayIndex = s.clock.dayIndex ∧ c.opening = s.yard.opening ∧
          c.makeVolume = s.yard.makeVolume ∧ c.makeEnergy = s.yard.makeEnergy ∧
          c.sendVolume = min 999999999 (((List.finRange 6).map fun d => (s.account d).today.volume).sum) ∧
          c.closing = (if ∃ h : HolderId, (s.holder h).service = .inUse ∧ (s.holder h).stock = none then none else some sum) ∧
          t.yard.opening = c.closing ∧ c.incomplete = (c.opening.isNone || c.closing.isNone) ∧
          (∀ o k, c.opening = some o → c.closing = some k →
            c.unaccounted = some ((o : Int) + c.makeVolume - c.sendVolume - k)) ∧
          (c.opening = none ∨ c.closing = none → c.unaccounted = none) ∧
          (energy < 1000000000000 → c.sendEnergy.mj * 1000 + c.sendEnergy.kj = energy ∧ c.sendEnergy.kj ≤ 999) ∧
          (1000000000000 ≤ energy → c.sendEnergy = ⟨999999999, 999⟩) ∧
          (c.incomplete = true → s.enabled .balanceIncomplete = true → t.isPending .balanceIncomplete 0) ∧
          let high := ∃ u, c.unaccounted = some u ∧ s.yardCfg.tolerance * c.sendVolume < u.natAbs * 1000
          (high → s.enabled .unaccountedHigh = true → t.isPending .unaccountedHigh 0) ∧
          (¬ high → s.AlertsSound → t.alerts.list.filter (fun p => p.cause == ⟨.unaccountedHigh, 0⟩) =
            s.alerts.list.filter fun p => p.cause == ⟨.unaccountedHigh, 0⟩))

/-! ## Alerts, the store and starts (chapters 9 and 10) -/

/-- ACKNOWLEDGE by the table of R167: a group outside 1 to 7, or an instance not pending or not of the group, is refused with
NO_SUCH_RECORD, and one already acknowledged with NO_CHANGE; a named event leaves the list, a named condition has
acknowledged set; with none named every event of the group leaves and every condition of it is acknowledged, and the reply
counts those that changed.
A request row is taken whatever the receiver state (model's choice: log entry 8). -/
def Obligations.AcknowledgeActsOnTheList : Prop :=
  ∀ s : State, s.power = .up → s.AlertsSound →
    let refused : AcknowledgeRequest → Nat → Prop := fun r code =>
      exec (.acknowledge r) s = .next (s.replying (bytes [9, code]))
    let acknowledged : (Pending → Prop) → List Pending → Prop := fun picks l =>
      (∀ p ∈ s.alerts.list, ¬ picks p → p ∈ l) ∧
      (∀ p ∈ s.alerts.list, picks p → p.cause.kind.isEvent = false → { p with acknowledged := true } ∈ l) ∧
      ∀ q ∈ l, ∃ p ∈ s.alerts.list, q.cause = p.cause ∧
        ((¬ picks p ∧ q = p) ∨ (picks p ∧ p.cause.kind.isEvent = false ∧ q = { p with acknowledged := true }))
    (∀ (n : Nat) (named : Option (Nat × Nat)), n = 0 ∨ 7 < n → refused ⟨n, named⟩ 1) ∧
    (∀ (g : GroupId) (kind item : Nat),
      (∀ p ∈ s.alerts.list, p.cause.kind.group = g → ¬ (p.cause.kind.index.val + 1 = kind ∧ p.cause.item = item)) →
        refused ⟨g.val + 1, some (kind, item)⟩ 1) ∧
    (∀ p ∈ s.alerts.list,
      let r : AcknowledgeRequest := ⟨p.cause.kind.group.val + 1, some (p.cause.kind.index.val + 1, p.cause.item)⟩
      (p.acknowledged = true → refused r 9) ∧
      (p.acknowledged = false → Answers (.acknowledge r) s fun t =>
        acknowledged (fun q => q = p) t.alerts.list ∧ t.port.reply = some (bytes [9, 0, 0, 1]))) ∧
    (∀ g : GroupId, Answers (.acknowledge ⟨g.val + 1, none⟩) s fun t =>
      acknowledged (fun q => q.cause.kind.group = g) t.alerts.list ∧
        t.port.reply = some (bytes [9, 0] ++ beBytes 2 (s.alerts.list.filter fun q =>
          q.cause.kind.group == g && !q.acknowledged).length))

/-- STORE is refused with BUSY while a write is under way; otherwise it copies every configuration field into the write, leaves
the image and answers DONE, and no AMEND reaches what is being written (R180). At the end of a write whose check passes the
image is the configuration copied; otherwise the image is invalid, the store FAILED and STORE_FAILED raised (R181).
RESTART is refused with BUSY while a write is under way, and otherwise held until its reply is sent (R184).
A request row is taken whatever the receiver state (model's choice: log entry 8).
That the check's outcome is an operand is the model's choice (log entry 23). -/
def Obligations.StoreCopiesAndWrites : Prop :=
  ∀ s : State, s.power = .up →
    (s.store.state.isWriting = true → exec .store s = .next (s.replying (bytes [11, 14]))) ∧
    (s.store.state.isWriting = false → Answers .store s fun t =>
      t.store = ⟨s.store.image, .writing ⟨s.settings, s.line.roster.map (·.cfg)⟩⟩ ∧ t.port.reply = some (bytes [11, 0])) ∧
    (∀ (kind key : Nat) (ps : List (Nat × Int)), Answers (.amend kind key ps) s fun t => t.store = s.store) ∧
    (∀ c, s.store.state = .writing c →
      (Answers (.storeWriteEnd true) s fun t => t.store = ⟨some c, .idle⟩) ∧
      Answers (.storeWriteEnd false) s fun t => t.store = ⟨none, .failed⟩ ∧ t.settings = s.settings ∧
        (s.enabled .storeFailed = true → t.isPending .storeFailed 0)) ∧
    (s.store.state.isWriting = false → ∀ passes, Answers (.storeWriteEnd passes) s fun t => t.store = s.store) ∧
    (∀ k : StartKind, s.store.state.isWriting = true → exec (.restart k) s = .next (s.replying (bytes [12, 14]))) ∧
    (∀ k : StartKind, s.store.state.isWriting = false → Answers (.restart k) s fun t =>
      t.port = { s.port with receiver := .replying, frame := [], reply := some (bytes [12, 0]), restart := some k })

/-- AMEND (R177, R178): a kind that is no record kind is refused with UNKNOWN_KIND and a key that names no record with
NO_SUCH_RECORD, field 0 named; no pair at all with BAD_VALUE; and the first pair that is of a field not defined, named a
second time, not writable or out of its range, naming it. A broken consistency rule is refused with BAD_VALUE naming the first
field given that takes part in it (R2, R12, R83, R103, R108, R119), and a use of the record that forbids it with its own code
(R43, R54). An accepted AMEND writes each value given to its field, leaves the fields not given, and acts as each field's
rule says: a holder's geometry on its gauge (R3), a governor's changeover OFF, trim and adjust period (R83, R117, R119), the
CV range on the mean CVs (R41), the clock (R155), a recovery command and a fitted flag on its valve (R43, R54, R90). The limit
condition is evaluated with the limit heights it leaves where one of them, the hysteresis, the geometry, the height or the
status changed (R16); a changed mode or balance band recombines the governor (R108, R113), a changed F_min or B evaluates the
district, a changed governor of it recombines the old and the new (R103, R106, R113), and a changed cycle period restarts the
cycle timer (R127).
A request row is taken whatever the receiver state (model's choice: log entry 8).
Field 0 in the refusals that name no field, the codes of the fitted flag, the clock set by an AMEND of the minute to its
present value, and L and the strokes as fields that take part in the rule on the gauge height, are the model's readings (log
entries 12, 15, 18 and 37). -/
def Obligations.AmendsWriteTheFieldsGiven : Prop :=
  ∀ (ps : List (Nat × Int)) (s : State), s.power = .up →
    let refused : Nat → Nat → List (Nat × Int) → Nat → Nat → Prop := fun kind key qs code f =>
      exec (.amend kind key qs) s = .next (s.replying (bytes [4, code, f]))
    let gives : Nat → Nat → Nat → Prop := fun f old new =>
      (∀ v : Int, (f, v) ∈ ps → new = v.toNat) ∧ ((∀ v : Int, (f, v) ∉ ps) → new = old)
    (∀ kind key : Nat, kind = 0 ∨ 9 < kind → refused kind key ps 2 0) ∧
    (∀ kind key : Nat, s.recordOf kind key = .error .noSuchRecord → refused kind key ps 1 0) ∧
    (∀ (kind key : Nat) (r : RecordRef), s.recordOf kind key = .ok r → refused kind key [] 3 0) ∧
    (∀ (kind key f : Nat) (v : Int) (r : RecordRef) (passed : List (Nat × Int)), s.recordOf kind key = .ok r →
      s.firstRefusal r [] passed = none →
      (s.fieldRule r f = .undefined → refused kind key (passed ++ (f, v) :: ps) 2 f) ∧
      (s.fieldRule r f = .readOnly → refused kind key (passed ++ (f, v) :: ps) 4 f) ∧
      (∀ lo hi : Int, s.fieldRule r f = .range lo hi → v < lo ∨ hi < v ∨ f ∈ passed.map (·.1) →
        refused kind key (passed ++ (f, v) :: ps) 3 f)) ∧
    (∀ (kind key f : Nat) (r : RecordRef) (before after : List Nat), s.recordOf kind key = .ok r →
      s.firstRefusal r [] ps = none → ps.map (·.1) = before ++ f :: after → f ∈ s.brokenFields r ps →
      (∀ x ∈ before, x ∉ s.brokenFields r ps) → refused kind key ps 3 f) ∧
    (∀ (h : HolderId) (f : Nat), s.firstRefusal (.holder h) [] ps = none →
      let c := (s.holderCfg h).amended ps
      let stroke := ∃ i : Fin 4, i.val < c.lifts ∧ f = 6 + i.val
      let pressure := ∃ i : Fin 4, i.val < c.lifts ∧ f = 11 + i.val
      (f ∈ s.brokenFields (.holder h) ps ↔
        ((f = 1 ∨ stroke) ∧ 40000 < c.totalStroke) ∨
        ((f = 1 ∨ pressure) ∧ ∃ i j : Fin 4, i ≤ j ∧ j.val < c.lifts ∧ c.pressure[j] < c.pressure[i]) ∨
        ((f = 1 ∨ stroke ∨ f = 15 ∨ f = 16 ∨ f = 17 ∨ f = 18) ∧
          ¬ (0 < c.lowStop ∧ c.lowStop < c.lowWarn ∧ c.lowWarn < c.highWarn ∧ c.highWarn < c.highStop ∧
            c.highStop ≤ c.totalStroke)) ∨
        ((f = 15 ∨ f = 18 ∨ f = 19) ∧ c.highStop ≤ c.lowStop + 2 * c.hysteresis) ∨
        ((f = 1 ∨ stroke ∨ f = 22) ∧ ∃ v : Int, (22, v) ∈ ps ∧ (c.totalStroke : Int) < v))) ∧
    (∀ (g : GovernorId) (f : Nat), s.firstRefusal (.governor g) [] ps = none →
      let c := (s.governorCfg g).amended ps
      (f ∈ s.brokenFields (.governor g) ps ↔
        ((f = 1 ∨ f = 2) ∧ c.maxSetpoint < c.minSetpoint) ∨
        (f = 8 ∧ ∃ v : Int, (8, v) ∈ ps ∧
          ∀ hs : List HolderId, hs.length ≤ 3 → hs.Nodup → (ofBytes (encodeStandby hs) : Int) ≠ v) ∨
        ((f = 4 ∨ f = 23) ∧ ∃ v : Int, (23, v) ∈ ps ∧ c.trimLimit < v.natAbs))) ∧
    (∀ (d : DistrictId) (f : Nat), s.firstRefusal (.district d) [] ps = none →
      (f ∈ s.brokenFields (.district d) ps ↔
        f = 1 ∧ ∃ g : GovernorId, (1, (g.val + 1 : Int)) ∈ ps ∧ (s.districtCfg d).governor ≠ g ∧
          2 ≤ ((List.finRange 6).filter fun e => e ≠ d ∧ (s.districtCfg e).governor = g).length)) ∧
    (∀ f : Nat, s.firstRefusal .yard [] ps = none →
      let c := s.yardCfg.amended ps
      (f ∈ s.brokenFields .yard ps ↔ (f = 5 ∨ f = 6) ∧ c.cvCeiling ≤ c.cvFloor)) ∧
    (∀ h : HolderId, s.amendRefusal (.holder h) ps none = none → Answers (.amend 1 (h.val + 1) ps) s fun t =>
      let c := s.holderCfg h
      let c' := t.holderCfg h
      gives 1 c.lifts c'.lifts ∧ gives 15 c.lowStop c'.lowStop ∧ gives 16 c.lowWarn c'.lowWarn ∧
      gives 17 c.highWarn c'.highWarn ∧ gives 18 c.highStop c'.highStop ∧ gives 19 c.hysteresis c'.hysteresis ∧
      gives 20 c.markTolerance c'.markTolerance ∧
      (∀ i : Fin 4, gives (2 + i.val) c.area[i] c'.area[i] ∧ gives (6 + i.val) c.stroke[i] c'.stroke[i] ∧
        gives (11 + i.val) c.pressure[i] c'.pressure[i]) ∧
      (∀ v : Int, (21, v) ∈ ps → (t.holder h).service = if v = 0 then .inUse else .out) ∧
      (∀ v : Int, (22, v) ∈ ps → ((t.holder h).height : Int) = v ∧ (t.holder h).status = .good) ∧
      ((∀ v : Int, (22, v) ∉ ps) →
        let geometry := c'.lifts ≠ c.lifts ∨ ∃ i : Fin 4, i.val < c.lifts ∧ c'.stroke[i] ≠ c.stroke[i]
        (geometry → (t.holder h).height = min (s.holder h).height c'.totalStroke ∧ (t.holder h).status = .unset ∧
          (t.holder h).stock = none ∧ (t.holder h).limit = (s.holder h).limit) ∧
        (¬ geometry → (t.holder h).height = (s.holder h).height ∧ (t.holder h).status = (s.holder h).status)) ∧
      (let x := s.holder h
        let y := t.holder h
        let evaluated := c'.lowStop ≠ c.lowStop ∨ c'.lowWarn ≠ c.lowWarn ∨ c'.highWarn ≠ c.highWarn ∨
          c'.highStop ≠ c.highStop ∨ c'.hysteresis ≠ c.hysteresis ∨ y.height ≠ x.height ∨ y.status ≠ x.status ∨
          c'.lifts ≠ c.lifts ∨ ∃ i : Fin 4, i.val < c.lifts ∧ c'.stroke[i] ≠ c.stroke[i]
        let inLow := y.height ≤ c'.lowStop ∨ (x.limit = .lowStop ∧ y.height < c'.lowStop + c'.hysteresis)
        let inHigh := c'.highStop ≤ y.height ∨ (x.limit = .highStop ∧ c'.highStop < y.height + c'.hysteresis)
        (evaluated → y.stock ≠ none → y.limit = if inLow then .lowStop else if inHigh then .highStop
          else if y.height ≤ c'.lowWarn then .lowWarn else if c'.highWarn ≤ y.height then .highWarn else .normal) ∧
        (¬ evaluated ∨ y.stock = none → y.limit = x.limit)) ∧
      ∀ h', h' ≠ h → t.holderCfg h' = s.holderCfg h' ∧ t.holder h' = s.holder h') ∧
    (∀ g : GovernorId, s.amendRefusal (.governor g) ps none = none → Answers (.amend 4 (g.val + 1) ps) s fun t =>
      let c := s.governorCfg g
      let c' := t.governorCfg g
      let limit : Int := c'.trimLimit
      gives 1 c.minSetpoint c'.minSetpoint ∧ gives 2 c.maxSetpoint c'.maxSetpoint ∧ gives 3 c.step c'.step ∧
      gives 4 c.trimLimit c'.trimLimit ∧ gives 6 c.balanceBand c'.balanceBand ∧ gives 7 c.adjustPeriod c'.adjustPeriod ∧
      gives 10 c.mainLoss c'.mainLoss ∧
      (∀ i : Fin 24, gives (30 + i.val) c.bandA[i] c'.bandA[i] ∧ gives (54 + i.val) c.bandB[i] c'.bandB[i]) ∧
      (∀ v : Int, (5, v) ∈ ps → (c'.mode.code : Int) = v) ∧ ((∀ v : Int, (5, v) ∉ ps) → c'.mode = c.mode) ∧
      (∀ v : Int, (8, v) ∈ ps → (ofBytes (encodeStandby c'.standby) : Int) = v) ∧
      ((∀ v : Int, (8, v) ∉ ps) → c'.standby = c.standby) ∧
      (∀ v : Int, (9, v) ∈ ps → c'.autoChangeover = (v != 0)) ∧
      ((∀ v : Int, (9, v) ∉ ps) → c'.autoChangeover = c.autoChangeover) ∧
      (c.autoChangeover = true → c'.autoChangeover = false →
        (t.governor g).deferred = noTriggers ∧ (t.governor g).retry = false) ∧
      (c.autoChangeover = false → c'.autoChangeover = false → (t.governor g).deferred = (s.governor g).deferred) ∧
      (t.governor g).adjustSince = (if c'.adjustPeriod = c.adjustPeriod then (s.governor g).adjustSince else s.now) ∧
      (∀ v : Int, (23, v) ∈ ps → (t.governor g).trim = v) ∧
      ((∀ v : Int, (23, v) ∉ ps) → (t.governor g).trim =
        if c'.trimLimit = c.trimLimit then (s.governor g).trim else max (-limit) (min limit (s.governor g).trim)) ∧
      (let r := ((s.setSettings t.settings).recombine g).governor g
        if c'.mode ≠ c.mode ∨ c'.balanceBand ≠ c.balanceBand then
          (t.governor g).request = r.request ∧ (t.governor g).combining = r.combining
        else (t.governor g).request = (s.governor g).request ∧ (t.governor g).combining = (s.governor g).combining) ∧
      ∀ g', g' ≠ g → t.governorCfg g' = s.governorCfg g') ∧
    (∀ d : DistrictId, s.amendRefusal (.district d) ps none = none → Answers (.amend 5 (d.val + 1) ps) s fun t =>
      (∀ v : Int, (1, v) ∈ ps → ((t.districtCfg d).governor.val : Int) + 1 = v) ∧
      ((∀ v : Int, (1, v) ∉ ps) → (t.districtCfg d).governor = (s.districtCfg d).governor) ∧
      gives 2 (s.districtCfg d).fMin (t.districtCfg d).fMin ∧ gives 3 (s.districtCfg d).band (t.districtCfg d).band ∧
      (∀ d', d' ≠ d → t.districtCfg d' = s.districtCfg d' ∧ t.district d' = s.district d') ∧
      (let c := s.districtCfg d
        let c' := t.districtCfg d
        let amended := s.setSettings t.settings
        let u := if c'.fMin ≠ c.fMin ∨ c'.band ≠ c.band then amended.evaluateDistrict d else amended
        t.districts = u.districts ∧
        (c'.governor = c.governor → t.governors = u.governors) ∧
        (c'.governor ≠ c.governor → ∀ g : GovernorId,
          if g = c.governor ∨ g = c'.governor then t.governor g = (u.recombine g).governor g
          else t.governor g = s.governor g))) ∧
    (∀ (a : Nat) (st : Station), s.station a = some st → s.amendRefusal (.station a) ps none = none →
      Answers (.amend 6 a ps) s fun t => ∀ v : Int, (4, v) ∈ ps →
        t.station a = some { st with cfg := { st.cfg with maxIncrement := v.toNat } }) ∧
    (s.amendRefusal .profiles ps none = none → Answers (.amend 7 0 ps) s fun t =>
      ∀ i : Fin 16, gives (i.val + 1) s.settings.profiles[i] t.settings.profiles[i]) ∧
    (s.amendRefusal .yard ps none = none → Answers (.amend 8 0 ps) s fun t =>
      let c := s.yardCfg
      let c' := t.yardCfg
      gives 1 c.debounce c'.debounce ∧ gives 2 c.cyclePeriod c'.cyclePeriod ∧ gives 3 c.answerTimeout c'.answerTimeout ∧
      gives 4 c.declaredCv c'.declaredCv ∧ gives 5 c.cvFloor c'.cvFloor ∧ gives 6 c.cvCeiling c'.cvCeiling ∧
      gives 7 c.closeMinute c'.closeMinute ∧ gives 8 c.tolerance c'.tolerance ∧ gives 16 c.threshold c'.threshold ∧
      (∀ i : Fin 7, (∀ v : Int, (9 + i.val, v) ∈ ps → (c'.week[i].code : Int) = v) ∧
        ((∀ v : Int, (9 + i.val, v) ∉ ps) → c'.week[i] = c.week[i])) ∧
      ((∀ v : Int, (1, v) ∉ ps) → c'.cvFloor ≠ c.cvFloor ∨ c'.cvCeiling ≠ c.cvCeiling → ∀ h : HolderId,
        t.holder h = { s.holder h with meanCv := (s.holder h).meanCv.map fun cv => max c'.cvFloor (min c'.cvCeiling cv) }) ∧
      (∀ v : Int, (20, v) ∈ ps → t.clock.minute = v.toNat ∧ t.clock.since = s.now ∧
        ((∀ w : Int, (21, w) ∉ ps) → t.clock.isSet = true)) ∧
      t.line = { s.line with cycleSince := if c'.cyclePeriod = c.cyclePeriod then s.line.cycleSince else s.now } ∧
      ((∀ v : Int, (20, v) ∉ ps) → t.clock.minute = s.clock.minute ∧ t.clock.since = s.clock.since) ∧
      (∀ v : Int, (21, v) ∈ ps → t.clock.isSet = (v != 0)) ∧ gives 22 s.clock.dayIndex t.clock.dayIndex) ∧
    (∀ g : GroupId, s.amendRefusal (.alertGroup g 1) ps none = none → Answers (.amend 9 (256 * (g.val + 1)) ps) s fun t =>
      gives 1 s.settings.levels[g] t.settings.levels[g] ∧
      ∀ v : Int, (2, v) ∈ ps → ∀ (k : CauseKind) (i : Nat), (kindsOf g)[i]? = some k → t.enabled k = v.toNat.testBit i) ∧
    (∀ v : ValveId,
      ((s.valveCfg v).fitted = false → refused 2 (v.val + 1) [(4, 0)] 7 4) ∧
      ((s.valveCfg v).fitted = true → (s.valve v).state.isFault = false → refused 2 (v.val + 1) [(4, 0)] 4 4) ∧
      ((s.valveCfg v).fitted = true → (s.valve v).state.isFault = true →
        Answers (.amend 2 (v.val + 1) [(4, 0)]) s fun t => (t.valve v).state =
          if s.shutSwitch v = .made ∧ s.openSwitch v = .broken then .shut else .closing) ∧
      (∀ n : Nat, 10 ≤ n → n ≤ 600 → Answers (.amend 2 (v.val + 1) [(3, (n : Int))]) s fun t =>
        t.valveCfg v = { s.valveCfg v with travelLimit := n } ∧ t.valves = s.valves)) ∧
    (∀ (h : HolderId) (x : Int), refused 2 ((inletOf h).val + 1) ((2, x) :: ps) 4 2) ∧
    (∀ (h : HolderId) (g : GovernorId),
      let v := outletOf h g
      let x := (s.valve v).state
      let inUse := x = .opening ∨ x = .opened ∨ x = .closing ∨
        (∃ o ∈ s.book.orders, o.isSendFor g = true ∧ o.holder = h ∧ o.isEnded = false) ∨
        (s.governor g).slot = some ⟨h, .automatic⟩
      let raw := ((s.contact (.openSwitch v)).raw, (s.contact (.shutSwitch v)).raw)
      ((s.valveCfg v).fitted = true → inUse → refused 2 (v.val + 1) [(2, 1)] 13 2) ∧
      ((s.valveCfg v).fitted = true → ¬ inUse → Answers (.amend 2 (v.val + 1) [(2, 1)]) s fun t =>
        t.valveCfg v = { s.valveCfg v with fitted := false } ∧ t.valve v = ⟨.shut, .off, none⟩ ∧
          t.contacts = s.contacts ∧ (s.AlertsSound → ¬ t.isPending .valveFault (v.val + 1))) ∧
      ((s.valveCfg v).fitted = false → Answers (.amend 2 (v.val + 1) [(2, 0)]) s fun t =>
        t.valveCfg v = { s.valveCfg v with fitted := true } ∧ t.contacts = s.contacts ∧ t.governors = s.governors ∧
        (raw = (.opened, .closed) → t.valve v = ⟨.shut, .off, none⟩) ∧
        (raw.1 = raw.2 → t.valve v = ⟨.fault .position, .off, none⟩) ∧
        (raw = (.closed, .opened) → t.valve v =
          if s.shutSwitch v = .made ∧ s.openSwitch v = .broken then ⟨.shut, .off, none⟩
          else ⟨.closing, .toShut, some ⟨(s.valveCfg v).travelLimit, s.now⟩⟩)))

/-- A cold start, by a POWER_ON whose retained memory fails its check or by a RESTART COLD (R5, R31, R38, R81, R104, R141, R160,
R173, R182, R183, R185): configuration from the image, or factory defaults and an empty roster; the book empty with last
issued number 0; the trip and every contact unknown; holders, districts and accounts as their rules clear them; the clock
at 0 and not set; the port SETTLING. The roster is the image's, every station UNHEARD with no miss and no answer, the cycle
timer starts and no cycle is owed, and the first cycle starts at the start itself: the station at place 1 is called, or with an
empty roster the cycle has ended (R131, R142). A governor has no slot, trigger, retry, trim, taken setpoint, station mode or
count, its request HOLD and its adjust timer started, and leads with the first holder whose fitted outlet is read OPEN (R84,
R101, R102, R124). The alert list holds RESTARTED and, of an invalid image, STORE_INVALID, and the enabled conditions that hold, none
acknowledged, and nothing else (R171).
POWER_ON of a running module is a loss and a return; POWER_ON carries the strap (model's readings: log entries
20 and 21); the silence that ends SETTLING is timed from the start (model's choice: log entry 39). -/
def Obligations.ColdStartClearsAndLoads : Prop :=
  let cold : State → Option Configuration → State → Prop := fun s image t =>
    let c := image.getD ⟨factorySettings, []⟩
    t.power = .up ∧ t.settings = c.settings ∧ t.line.roster = c.roster.map (fun x => ⟨x, .unheard, 0, none⟩) ∧
    t.line.owed = false ∧ t.line.cycleSince = s.now ∧ t.FirstCycle ∧ t.store = ⟨image, .idle⟩ ∧ t.book = ⟨[], 0⟩ ∧
    t.trip = .unknown ∧
    (∀ x : ContactId, t.contact x = ⟨(s.contact x).raw, none, some ⟨(s.contact x).raw, s.now⟩⟩) ∧
    (∀ h : HolderId, t.holder h =
      { service := .inUse, height := 0, status := .unset, stock := none, floating := 0, pressure := 0, meanCv := none,
        gasTemp := 150, assumed := true, limit := .normal, phases := (s.holder h).phases }) ∧
    t.conditions = ⟨101325, true, none⟩ ∧
    (∀ d : DistrictId, t.district d = ⟨none, none, .hold, true⟩ ∧
      t.account d = ⟨none, ⟨0, ⟨0, 0⟩, false⟩, ⟨0, ⟨0, 0⟩, false⟩⟩) ∧
    t.yard = ⟨none, 0, ⟨0, 0⟩, none, none⟩ ∧ t.clock = ⟨0, false, 0, 0, s.now⟩ ∧
    t.port = ⟨.settling, [], none, none, s.now⟩ ∧ t.lineSpeed = (if t.strapMade = true then 19200 else 9600) ∧
    (∀ g : GovernorId,
      let w := t.governor g
      let readOpen : HolderId → Prop := fun h => (c.settings.valves[outletOf h g]).fitted = true ∧
        (s.contact (.openSwitch (outletOf h g))).raw = .closed ∧ (s.contact (.shutSwitch (outletOf h g))).raw = .opened
      w.slot = none ∧ w.deferred = noTriggers ∧ w.retry = false ∧ w.short = false ∧ w.trim = 0 ∧ w.request = .hold ∧
      w.taken = none ∧ w.stationMode = none ∧ w.notFollowing = 0 ∧ w.adjustSince = s.now ∧
      ((∀ h, ¬ readOpen h) → w.lead = none ∧ w.status = .unfed) ∧
      ∀ h, readOpen h → (∀ k, k < h → ¬ readOpen k) → w.lead = some ⟨h, .start⟩ ∧ w.status = .blind) ∧
    (∀ p ∈ t.alerts.list, p.acknowledged = false ∧ (p.cause.kind.isEvent = false → p.cause ∈ t.conditionsHolding) ∧
      (p.cause.kind.isEvent = true → p.cause = ⟨.restarted, 1⟩ ∨ (image = none ∧ p.cause = ⟨.storeInvalid, 0⟩))) ∧
    (∀ k ∈ t.conditionsHolding, t.enabled k.kind = true → t.isPending k.kind k.item) ∧
    (c.settings.enables[CauseKind.restarted.index] = true → t.isPending .restarted 1) ∧
    (image = none → c.settings.enables[CauseKind.storeInvalid.index] = true → t.isPending .storeInvalid 0)
  (∀ (s : State) (strap : Bool), Answers (.powerOn false strap) s fun t => t.strapMade = strap ∧
    cold s (if s.store.state.isWriting = true then none else s.store.image) t) ∧
  (∀ s : State, s.power = .up → s.port.receiver = .replying → s.port.restart = some .cold →
    s.store.state.isWriting = false → Answers .replySent s fun t => t.strapMade = s.strapMade ∧ cold s s.store.image t)

/-- A warm start, by a POWER_ON whose retained memory passes its check or by a RESTART WARM (R5, R77, R82, R102, R124, R142, R181,
R183, R184): the book is kept with its numbers; every QUEUED or running order ends INTERRUPTED, a LEADING order stays only
where its holder is recovered as its governor's lead, and an ENDED order is kept; GOOD gauges become DOUBTFUL and no mean CV
is mixed (R36); no changeover is in flight; trims, taken setpoints and station modes are kept. The roster keeps its order,
configuration and last answers, every station UNHEARD with no miss; the cycle timer starts and no cycle is owed, and the first
cycle starts at the start itself: the station at place 1 is called, or with an empty roster the cycle has ended (R131, R142).
The configuration is kept, and the store is FAILED where a write was cut short. The clock is kept; a day close is done exactly
where the close minute was among the minutes passed while down, none for a RESTART or a POWER_ON of a running module (R156 to
R158, R161). Event instances keep their places at the head of the list, conditions leave it and join it again unacknowledged
as they hold, and RESTARTED is raised (R171).
That a write found WRITING at REPLY_SENT is cut short by the start is the model's reading (log entry 22). POWER_ON of a running
module is a loss and a return (model's reading: log entry 20); the silence that ends SETTLING is timed from the start (model's
choice: log entry 39). -/
def Obligations.WarmStartInterruptsOrders : Prop :=
  let warm : Nat → State → State → Prop := fun minutesDown s t =>
    t.power = .up ∧ t.settings = s.settings ∧
    t.line.roster = s.line.roster.map (fun x => { x with link := .unheard, misses := 0 }) ∧
    t.line.owed = false ∧ t.line.cycleSince = s.now ∧ t.FirstCycle ∧
    t.trip = .unknown ∧ t.book.lastIssued = s.book.lastIssued ∧
    t.book.orders.map (·.number) = s.book.orders.map (·.number) ∧
    (∀ o ∈ s.book.orders, o.isEnded = true → o ∈ t.book.orders) ∧
    (∀ o ∈ s.book.orders, o.isEnded = false → o.state ≠ .leading →
      ∃ o' ∈ t.book.orders, o'.number = o.number ∧ o'.state = .ended .interrupted) ∧
    (∀ o ∈ s.book.orders, ∀ g, o.kind = .send g → o.state = .leading →
      if t.leads o.holder g = true then o ∈ t.book.orders
      else ∃ o' ∈ t.book.orders, o'.number = o.number ∧ o'.state = .ended .interrupted) ∧
    (∀ h : HolderId, (t.holder h).height = (s.holder h).height ∧ (t.holder h).assumed = true ∧
      (t.holder h).status = (if (s.holder h).status = .good then .doubtful else (s.holder h).status) ∧
      (s.GaugesSound → (t.holder h).meanCv = (s.holder h).meanCv)) ∧
    (∀ g : GovernorId, (t.governor g).slot = none ∧ (t.governor g).request = .hold ∧ (t.governor g).retry = false ∧
      (t.governor g).trim = (s.governor g).trim ∧ (t.governor g).taken = (s.governor g).taken ∧
      (t.governor g).stationMode = (s.governor g).stationMode) ∧
    (∀ g : GovernorId, ∀ l, (t.governor g).lead = some l →
      (s.contact (.openSwitch (outletOf l.holder g))).raw = .closed ∧
        (s.contact (.shutSwitch (outletOf l.holder g))).raw = .opened) ∧
    t.store.state = (if s.store.state.isWriting = true then .failed else s.store.state) ∧
    t.port = ⟨.settling, [], none, none, s.now⟩ ∧
    (let missed : Prop := ∃ j : Nat, j < minutesDown ∧ (s.yardCfg.closeMinute + j) % 1440 = s.clock.minute;
      t.clock.minute = s.clock.minute ∧ t.clock.isSet = s.clock.isSet ∧ t.clock.since = s.clock.since ∧
      t.clock.minutesDown = 0 ∧
      (s.clock.minute < 1440 → s.yardCfg.closeMinute < 1440 →
        (¬ missed → t.accounts = s.accounts ∧ t.yard = s.yard ∧ t.clock.dayIndex = s.clock.dayIndex) ∧
        (missed → t.clock.dayIndex = (if s.clock.dayIndex < 6 then s.clock.dayIndex + 1 else 0) ∧
          (∀ d : DistrictId, t.account d = ⟨(s.account d).lastIndex, ⟨0, ⟨0, 0⟩, false⟩, (s.account d).today⟩) ∧
          t.yard.makeVolume = 0 ∧ t.yard.makeEnergy = ⟨0, 0⟩ ∧ t.yard.lastMakeIndex = s.yard.lastMakeIndex ∧
          ∃ c : ClosedDay, t.yard.closedDay = some c ∧ t.yard.opening = c.closing ∧ c.dayIndex = s.clock.dayIndex ∧
            c.opening = s.yard.opening ∧ c.makeVolume = s.yard.makeVolume ∧ c.makeEnergy = s.yard.makeEnergy ∧
            (c.closing = none ↔ ∃ h : HolderId, (t.holder h).service = .inUse ∧ (t.holder h).stock = none)))) ∧
    (∃ joined, t.alerts.list.map (·.cause) =
      (s.alerts.list.filter fun p => p.cause.kind.isEvent).map (·.cause) ++ joined) ∧
    (∀ p ∈ s.alerts.list, p.cause.kind.isEvent = true → p.count ≤ 255 →
      ∃ p' ∈ t.alerts.list, p'.cause = p.cause ∧ p'.minuteRaised = p.minuteRaised ∧ p.count ≤ p'.count) ∧
    (∀ p ∈ t.alerts.list, p.cause.kind.isEvent = false → p.acknowledged = false ∧ p.cause ∈ t.conditionsHolding) ∧
    (∀ k ∈ t.conditionsHolding, t.enabled k.kind = true → t.isPending k.kind k.item) ∧
    (s.enabled .restarted = true → t.isPending .restarted 2)
  (∀ (s : State) (strap : Bool), s.BookSound →
    Answers (.powerOn true strap) s (warm (if s.power = .up then 0 else s.clock.minutesDown) s)) ∧
  (∀ s : State, s.BookSound → s.power = .up → s.port.receiver = .replying → s.port.restart = some .warm →
    Answers .replySent s (warm 0 s))

/-! ## Invariants -/

/-- Every step keeps the order book within its limits (R56, R57) and, in it, every later FILL of a holder QUEUED behind a live
one (R61). -/
def Obligations.EveryStepKeepsTheBookSound : Prop :=
  ∀ s t : State, s.BookSound → s.FillsWait → step s = .next t → t.BookSound ∧ t.FillsWait

/-- Every step keeps every configuration the module holds, in use, stored or being written, within the rules of R178 and the
roster limits of R126, and every present holder CV between the CV floor and the CV ceiling (R41). -/
def Obligations.EveryStepKeepsConfigurationsSound : Prop :=
  ∀ s t : State, s.ConfigurationsSound → s.RostersSound → s.CvsSound → step s = .next t →
    t.ConfigurationsSound ∧ t.RostersSound ∧ t.CvsSound

/-- Every step keeps stock present exactly in GOOD and DOUBTFUL and the height within 0 to T (R13), and every holder's stock,
lift count and pressure those that its height and the conditions in use give (R24, R25, R29, R34). -/
def Obligations.EveryStepKeepsStockDerived : Prop :=
  ∀ s t : State, s.GaugesSound → s.StocksDerived → step s = .next t → t.GaugesSound ∧ t.StocksDerived

/-- Every step keeps every valve's drive and travel timer as its state has them, and every unfitted valve SHUT (R43, R44). -/
def Obligations.EveryStepKeepsValvesSound : Prop :=
  ∀ s t : State, s.ValvesSound → step s = .next t → t.ValvesSound

/-- Every step keeps every commanded setpoint between its minimum and maximum and every trim within its limit (R118), and,
while the module is up, every governor's supply status, ceiling and setpoints those that its lead, its trim, its settings
and the clock give (R86, R87, R93, R114, R115). -/
def Obligations.EveryStepKeepsSetpointsSound : Prop :=
  ∀ s t : State, s.ConfigurationsSound → s.SetpointsSound → s.GovernorsDerived → step s = .next t →
    t.SetpointsSound ∧ t.GovernorsDerived

/-- Every step keeps every volume and energy figure within its limits, every kJ remainder 0 to 999 (R151), and every station
LOST exactly when its miss count is at least 3 (R134). -/
def Obligations.EveryStepKeepsFiguresAndLinksSound : Prop :=
  ∀ s t : State, s.FiguresSound → s.LinksSound → step s = .next t → t.FiguresSound ∧ t.LinksSound

/-- Every step keeps the alert list sound: one instance for each cause, of an enabled kind; a condition pending exactly while it
holds and its kind is enabled; the attention output as R169 has it (R163 to R166, R169).
Conditions are judged from their owners' records, at the end of a step and where one clears inside it (model's reading: log
entry 10). -/
def Obligations.EveryStepKeepsAlertsSound : Prop :=
  ∀ s t : State, s.RostersSound → s.AlertsSound → step s = .next t → t.AlertsSound

/-- Every step keeps every inlet safe: OPENING or OPEN only with a running FILL behind it, on a holder that is IN, not in
HIGH_STOP and with the yard trip not active (R20, R69, R78). -/
def Obligations.EveryStepKeepsInletsSafe : Prop :=
  ∀ s t : State, s.BookSound → s.FillsWait → s.ConfigurationsSound → s.InletsSafe → s.OutletsSafe → step s = .next t →
    t.InletsSafe

/-- Every step keeps every outlet safe: no holder in LOW_STOP leads or has an outlet OPENING or OPEN, every lead's outlet is
OPEN, an outlet is OPENING only for the changeover in flight, and a governor has at most one LEADING order, which names its
lead (R17, R73, R85, R90, R91). -/
def Obligations.EveryStepKeepsOutletsSafe : Prop :=
  ∀ s t : State, s.BookSound → s.ValvesSound → s.OutletsSafe → step s = .next t → t.OutletsSafe

/-- The state after reset meets every invariant.
(The state after reset is the model's choice where the spec gives none: log entries 2 and 5.) -/
def Obligations.ResetIsSound : Prop :=
  State.reset.BookSound ∧ State.reset.FillsWait ∧ State.reset.ConfigurationsSound ∧ State.reset.RostersSound ∧
    State.reset.CvsSound ∧ State.reset.GaugesSound ∧ State.reset.StocksDerived ∧ State.reset.ValvesSound ∧
    State.reset.SetpointsSound ∧ State.reset.GovernorsDerived ∧ State.reset.FiguresSound ∧ State.reset.LinksSound ∧
    State.reset.AlertsSound ∧ State.reset.InletsSafe ∧ State.reset.OutletsSafe
end

