-- ==== Sys2Proof/Laws/State.lean ====
section
/-! SUPPORT. What each writer of a record leaves in each field of the state, true by unfolding, so that no proof needs to
unfold a record update; and what the readers of the indexed records give after the writers of the same kind. -/

namespace Sys2Proof.Machine

variable (s : State)

/-! ### State.setHolder -/

@[simp] theorem State.setHolder_pending (h : HolderId) (x : Holder) : (s.setHolder h x).pending = s.pending := rfl
@[simp] theorem State.setHolder_now (h : HolderId) (x : Holder) : (s.setHolder h x).now = s.now := rfl
@[simp] theorem State.setHolder_choices (h : HolderId) (x : Holder) : (s.setHolder h x).choices = s.choices := rfl
@[simp] theorem State.setHolder_power (h : HolderId) (x : Holder) : (s.setHolder h x).power = s.power := rfl
@[simp] theorem State.setHolder_strapMade (h : HolderId) (x : Holder) : (s.setHolder h x).strapMade = s.strapMade := rfl
@[simp] theorem State.setHolder_lineSpeed (h : HolderId) (x : Holder) : (s.setHolder h x).lineSpeed = s.lineSpeed := rfl
@[simp] theorem State.setHolder_settings (h : HolderId) (x : Holder) : (s.setHolder h x).settings = s.settings := rfl
@[simp] theorem State.setHolder_holders (h : HolderId) (x : Holder) : (s.setHolder h x).holders = s.holders.set h x := rfl
@[simp] theorem State.setHolder_contacts (h : HolderId) (x : Holder) : (s.setHolder h x).contacts = s.contacts := rfl
@[simp] theorem State.setHolder_conditions (h : HolderId) (x : Holder) : (s.setHolder h x).conditions = s.conditions := rfl
@[simp] theorem State.setHolder_valves (h : HolderId) (x : Holder) : (s.setHolder h x).valves = s.valves := rfl
@[simp] theorem State.setHolder_book (h : HolderId) (x : Holder) : (s.setHolder h x).book = s.book := rfl
@[simp] theorem State.setHolder_governors (h : HolderId) (x : Holder) : (s.setHolder h x).governors = s.governors := rfl
@[simp] theorem State.setHolder_districts (h : HolderId) (x : Holder) : (s.setHolder h x).districts = s.districts := rfl
@[simp] theorem State.setHolder_accounts (h : HolderId) (x : Holder) : (s.setHolder h x).accounts = s.accounts := rfl
@[simp] theorem State.setHolder_yard (h : HolderId) (x : Holder) : (s.setHolder h x).yard = s.yard := rfl
@[simp] theorem State.setHolder_clock (h : HolderId) (x : Holder) : (s.setHolder h x).clock = s.clock := rfl
@[simp] theorem State.setHolder_line (h : HolderId) (x : Holder) : (s.setHolder h x).line = s.line := rfl
@[simp] theorem State.setHolder_alerts (h : HolderId) (x : Holder) : (s.setHolder h x).alerts = s.alerts := rfl
@[simp] theorem State.setHolder_port (h : HolderId) (x : Holder) : (s.setHolder h x).port = s.port := rfl
@[simp] theorem State.setHolder_store (h : HolderId) (x : Holder) : (s.setHolder h x).store = s.store := rfl

/-! ### State.setValve -/

@[simp] theorem State.setValve_pending (v : ValveId) (x : Valve) : (s.setValve v x).pending = s.pending := rfl
@[simp] theorem State.setValve_now (v : ValveId) (x : Valve) : (s.setValve v x).now = s.now := rfl
@[simp] theorem State.setValve_choices (v : ValveId) (x : Valve) : (s.setValve v x).choices = s.choices := rfl
@[simp] theorem State.setValve_power (v : ValveId) (x : Valve) : (s.setValve v x).power = s.power := rfl
@[simp] theorem State.setValve_strapMade (v : ValveId) (x : Valve) : (s.setValve v x).strapMade = s.strapMade := rfl
@[simp] theorem State.setValve_lineSpeed (v : ValveId) (x : Valve) : (s.setValve v x).lineSpeed = s.lineSpeed := rfl
@[simp] theorem State.setValve_settings (v : ValveId) (x : Valve) : (s.setValve v x).settings = s.settings := rfl
@[simp] theorem State.setValve_holders (v : ValveId) (x : Valve) : (s.setValve v x).holders = s.holders := rfl
@[simp] theorem State.setValve_contacts (v : ValveId) (x : Valve) : (s.setValve v x).contacts = s.contacts := rfl
@[simp] theorem State.setValve_conditions (v : ValveId) (x : Valve) : (s.setValve v x).conditions = s.conditions := rfl
@[simp] theorem State.setValve_valves (v : ValveId) (x : Valve) : (s.setValve v x).valves = s.valves.set v x := rfl
@[simp] theorem State.setValve_book (v : ValveId) (x : Valve) : (s.setValve v x).book = s.book := rfl
@[simp] theorem State.setValve_governors (v : ValveId) (x : Valve) : (s.setValve v x).governors = s.governors := rfl
@[simp] theorem State.setValve_districts (v : ValveId) (x : Valve) : (s.setValve v x).districts = s.districts := rfl
@[simp] theorem State.setValve_accounts (v : ValveId) (x : Valve) : (s.setValve v x).accounts = s.accounts := rfl
@[simp] theorem State.setValve_yard (v : ValveId) (x : Valve) : (s.setValve v x).yard = s.yard := rfl
@[simp] theorem State.setValve_clock (v : ValveId) (x : Valve) : (s.setValve v x).clock = s.clock := rfl
@[simp] theorem State.setValve_line (v : ValveId) (x : Valve) : (s.setValve v x).line = s.line := rfl
@[simp] theorem State.setValve_alerts (v : ValveId) (x : Valve) : (s.setValve v x).alerts = s.alerts := rfl
@[simp] theorem State.setValve_port (v : ValveId) (x : Valve) : (s.setValve v x).port = s.port := rfl
@[simp] theorem State.setValve_store (v : ValveId) (x : Valve) : (s.setValve v x).store = s.store := rfl

/-! ### State.setGovernor -/

@[simp] theorem State.setGovernor_pending (g : GovernorId) (x : Governor) : (s.setGovernor g x).pending = s.pending := rfl
@[simp] theorem State.setGovernor_now (g : GovernorId) (x : Governor) : (s.setGovernor g x).now = s.now := rfl
@[simp] theorem State.setGovernor_choices (g : GovernorId) (x : Governor) : (s.setGovernor g x).choices = s.choices := rfl
@[simp] theorem State.setGovernor_power (g : GovernorId) (x : Governor) : (s.setGovernor g x).power = s.power := rfl
@[simp] theorem State.setGovernor_strapMade (g : GovernorId) (x : Governor) : (s.setGovernor g x).strapMade = s.strapMade := rfl
@[simp] theorem State.setGovernor_lineSpeed (g : GovernorId) (x : Governor) : (s.setGovernor g x).lineSpeed = s.lineSpeed := rfl
@[simp] theorem State.setGovernor_settings (g : GovernorId) (x : Governor) : (s.setGovernor g x).settings = s.settings := rfl
@[simp] theorem State.setGovernor_holders (g : GovernorId) (x : Governor) : (s.setGovernor g x).holders = s.holders := rfl
@[simp] theorem State.setGovernor_contacts (g : GovernorId) (x : Governor) : (s.setGovernor g x).contacts = s.contacts := rfl
@[simp] theorem State.setGovernor_conditions (g : GovernorId) (x : Governor) : (s.setGovernor g x).conditions = s.conditions := rfl
@[simp] theorem State.setGovernor_valves (g : GovernorId) (x : Governor) : (s.setGovernor g x).valves = s.valves := rfl
@[simp] theorem State.setGovernor_book (g : GovernorId) (x : Governor) : (s.setGovernor g x).book = s.book := rfl
@[simp] theorem State.setGovernor_governors (g : GovernorId) (x : Governor) : (s.setGovernor g x).governors = s.governors.set g x := rfl
@[simp] theorem State.setGovernor_districts (g : GovernorId) (x : Governor) : (s.setGovernor g x).districts = s.districts := rfl
@[simp] theorem State.setGovernor_accounts (g : GovernorId) (x : Governor) : (s.setGovernor g x).accounts = s.accounts := rfl
@[simp] theorem State.setGovernor_yard (g : GovernorId) (x : Governor) : (s.setGovernor g x).yard = s.yard := rfl
@[simp] theorem State.setGovernor_clock (g : GovernorId) (x : Governor) : (s.setGovernor g x).clock = s.clock := rfl
@[simp] theorem State.setGovernor_line (g : GovernorId) (x : Governor) : (s.setGovernor g x).line = s.line := rfl
@[simp] theorem State.setGovernor_alerts (g : GovernorId) (x : Governor) : (s.setGovernor g x).alerts = s.alerts := rfl
@[simp] theorem State.setGovernor_port (g : GovernorId) (x : Governor) : (s.setGovernor g x).port = s.port := rfl
@[simp] theorem State.setGovernor_store (g : GovernorId) (x : Governor) : (s.setGovernor g x).store = s.store := rfl

/-! ### State.setDistrict -/

@[simp] theorem State.setDistrict_pending (d : DistrictId) (x : District) : (s.setDistrict d x).pending = s.pending := rfl
@[simp] theorem State.setDistrict_now (d : DistrictId) (x : District) : (s.setDistrict d x).now = s.now := rfl
@[simp] theorem State.setDistrict_choices (d : DistrictId) (x : District) : (s.setDistrict d x).choices = s.choices := rfl
@[simp] theorem State.setDistrict_power (d : DistrictId) (x : District) : (s.setDistrict d x).power = s.power := rfl
@[simp] theorem State.setDistrict_strapMade (d : DistrictId) (x : District) : (s.setDistrict d x).strapMade = s.strapMade := rfl
@[simp] theorem State.setDistrict_lineSpeed (d : DistrictId) (x : District) : (s.setDistrict d x).lineSpeed = s.lineSpeed := rfl
@[simp] theorem State.setDistrict_settings (d : DistrictId) (x : District) : (s.setDistrict d x).settings = s.settings := rfl
@[simp] theorem State.setDistrict_holders (d : DistrictId) (x : District) : (s.setDistrict d x).holders = s.holders := rfl
@[simp] theorem State.setDistrict_contacts (d : DistrictId) (x : District) : (s.setDistrict d x).contacts = s.contacts := rfl
@[simp] theorem State.setDistrict_conditions (d : DistrictId) (x : District) : (s.setDistrict d x).conditions = s.conditions := rfl
@[simp] theorem State.setDistrict_valves (d : DistrictId) (x : District) : (s.setDistrict d x).valves = s.valves := rfl
@[simp] theorem State.setDistrict_book (d : DistrictId) (x : District) : (s.setDistrict d x).book = s.book := rfl
@[simp] theorem State.setDistrict_governors (d : DistrictId) (x : District) : (s.setDistrict d x).governors = s.governors := rfl
@[simp] theorem State.setDistrict_districts (d : DistrictId) (x : District) : (s.setDistrict d x).districts = s.districts.set d x := rfl
@[simp] theorem State.setDistrict_accounts (d : DistrictId) (x : District) : (s.setDistrict d x).accounts = s.accounts := rfl
@[simp] theorem State.setDistrict_yard (d : DistrictId) (x : District) : (s.setDistrict d x).yard = s.yard := rfl
@[simp] theorem State.setDistrict_clock (d : DistrictId) (x : District) : (s.setDistrict d x).clock = s.clock := rfl
@[simp] theorem State.setDistrict_line (d : DistrictId) (x : District) : (s.setDistrict d x).line = s.line := rfl
@[simp] theorem State.setDistrict_alerts (d : DistrictId) (x : District) : (s.setDistrict d x).alerts = s.alerts := rfl
@[simp] theorem State.setDistrict_port (d : DistrictId) (x : District) : (s.setDistrict d x).port = s.port := rfl
@[simp] theorem State.setDistrict_store (d : DistrictId) (x : District) : (s.setDistrict d x).store = s.store := rfl

/-! ### State.setAccount -/

@[simp] theorem State.setAccount_pending (d : DistrictId) (x : Account) : (s.setAccount d x).pending = s.pending := rfl
@[simp] theorem State.setAccount_now (d : DistrictId) (x : Account) : (s.setAccount d x).now = s.now := rfl
@[simp] theorem State.setAccount_choices (d : DistrictId) (x : Account) : (s.setAccount d x).choices = s.choices := rfl
@[simp] theorem State.setAccount_power (d : DistrictId) (x : Account) : (s.setAccount d x).power = s.power := rfl
@[simp] theorem State.setAccount_strapMade (d : DistrictId) (x : Account) : (s.setAccount d x).strapMade = s.strapMade := rfl
@[simp] theorem State.setAccount_lineSpeed (d : DistrictId) (x : Account) : (s.setAccount d x).lineSpeed = s.lineSpeed := rfl
@[simp] theorem State.setAccount_settings (d : DistrictId) (x : Account) : (s.setAccount d x).settings = s.settings := rfl
@[simp] theorem State.setAccount_holders (d : DistrictId) (x : Account) : (s.setAccount d x).holders = s.holders := rfl
@[simp] theorem State.setAccount_contacts (d : DistrictId) (x : Account) : (s.setAccount d x).contacts = s.contacts := rfl
@[simp] theorem State.setAccount_conditions (d : DistrictId) (x : Account) : (s.setAccount d x).conditions = s.conditions := rfl
@[simp] theorem State.setAccount_valves (d : DistrictId) (x : Account) : (s.setAccount d x).valves = s.valves := rfl
@[simp] theorem State.setAccount_book (d : DistrictId) (x : Account) : (s.setAccount d x).book = s.book := rfl
@[simp] theorem State.setAccount_governors (d : DistrictId) (x : Account) : (s.setAccount d x).governors = s.governors := rfl
@[simp] theorem State.setAccount_districts (d : DistrictId) (x : Account) : (s.setAccount d x).districts = s.districts := rfl
@[simp] theorem State.setAccount_accounts (d : DistrictId) (x : Account) : (s.setAccount d x).accounts = s.accounts.set d x := rfl
@[simp] theorem State.setAccount_yard (d : DistrictId) (x : Account) : (s.setAccount d x).yard = s.yard := rfl
@[simp] theorem State.setAccount_clock (d : DistrictId) (x : Account) : (s.setAccount d x).clock = s.clock := rfl
@[simp] theorem State.setAccount_line (d : DistrictId) (x : Account) : (s.setAccount d x).line = s.line := rfl
@[simp] theorem State.setAccount_alerts (d : DistrictId) (x : Account) : (s.setAccount d x).alerts = s.alerts := rfl
@[simp] theorem State.setAccount_port (d : DistrictId) (x : Account) : (s.setAccount d x).port = s.port := rfl
@[simp] theorem State.setAccount_store (d : DistrictId) (x : Account) : (s.setAccount d x).store = s.store := rfl

/-! ### State.setOrders -/

@[simp] theorem State.setOrders_pending (os : List Order) : (s.setOrders os).pending = s.pending := rfl
@[simp] theorem State.setOrders_now (os : List Order) : (s.setOrders os).now = s.now := rfl
@[simp] theorem State.setOrders_choices (os : List Order) : (s.setOrders os).choices = s.choices := rfl
@[simp] theorem State.setOrders_power (os : List Order) : (s.setOrders os).power = s.power := rfl
@[simp] theorem State.setOrders_strapMade (os : List Order) : (s.setOrders os).strapMade = s.strapMade := rfl
@[simp] theorem State.setOrders_lineSpeed (os : List Order) : (s.setOrders os).lineSpeed = s.lineSpeed := rfl
@[simp] theorem State.setOrders_settings (os : List Order) : (s.setOrders os).settings = s.settings := rfl
@[simp] theorem State.setOrders_holders (os : List Order) : (s.setOrders os).holders = s.holders := rfl
@[simp] theorem State.setOrders_contacts (os : List Order) : (s.setOrders os).contacts = s.contacts := rfl
@[simp] theorem State.setOrders_conditions (os : List Order) : (s.setOrders os).conditions = s.conditions := rfl
@[simp] theorem State.setOrders_valves (os : List Order) : (s.setOrders os).valves = s.valves := rfl
@[simp] theorem State.setOrders_book (os : List Order) : (s.setOrders os).book = { s.book with orders := os } := rfl
@[simp] theorem State.setOrders_governors (os : List Order) : (s.setOrders os).governors = s.governors := rfl
@[simp] theorem State.setOrders_districts (os : List Order) : (s.setOrders os).districts = s.districts := rfl
@[simp] theorem State.setOrders_accounts (os : List Order) : (s.setOrders os).accounts = s.accounts := rfl
@[simp] theorem State.setOrders_yard (os : List Order) : (s.setOrders os).yard = s.yard := rfl
@[simp] theorem State.setOrders_clock (os : List Order) : (s.setOrders os).clock = s.clock := rfl
@[simp] theorem State.setOrders_line (os : List Order) : (s.setOrders os).line = s.line := rfl
@[simp] theorem State.setOrders_alerts (os : List Order) : (s.setOrders os).alerts = s.alerts := rfl
@[simp] theorem State.setOrders_port (os : List Order) : (s.setOrders os).port = s.port := rfl
@[simp] theorem State.setOrders_store (os : List Order) : (s.setOrders os).store = s.store := rfl

/-! ### State.setSettings -/

@[simp] theorem State.setSettings_pending (c : Settings) : (s.setSettings c).pending = s.pending := rfl
@[simp] theorem State.setSettings_now (c : Settings) : (s.setSettings c).now = s.now := rfl
@[simp] theorem State.setSettings_choices (c : Settings) : (s.setSettings c).choices = s.choices := rfl
@[simp] theorem State.setSettings_power (c : Settings) : (s.setSettings c).power = s.power := rfl
@[simp] theorem State.setSettings_strapMade (c : Settings) : (s.setSettings c).strapMade = s.strapMade := rfl
@[simp] theorem State.setSettings_lineSpeed (c : Settings) : (s.setSettings c).lineSpeed = s.lineSpeed := rfl
@[simp] theorem State.setSettings_settings (c : Settings) : (s.setSettings c).settings = c := rfl
@[simp] theorem State.setSettings_holders (c : Settings) : (s.setSettings c).holders = s.holders := rfl
@[simp] theorem State.setSettings_contacts (c : Settings) : (s.setSettings c).contacts = s.contacts := rfl
@[simp] theorem State.setSettings_conditions (c : Settings) : (s.setSettings c).conditions = s.conditions := rfl
@[simp] theorem State.setSettings_valves (c : Settings) : (s.setSettings c).valves = s.valves := rfl
@[simp] theorem State.setSettings_book (c : Settings) : (s.setSettings c).book = s.book := rfl
@[simp] theorem State.setSettings_governors (c : Settings) : (s.setSettings c).governors = s.governors := rfl
@[simp] theorem State.setSettings_districts (c : Settings) : (s.setSettings c).districts = s.districts := rfl
@[simp] theorem State.setSettings_accounts (c : Settings) : (s.setSettings c).accounts = s.accounts := rfl
@[simp] theorem State.setSettings_yard (c : Settings) : (s.setSettings c).yard = s.yard := rfl
@[simp] theorem State.setSettings_clock (c : Settings) : (s.setSettings c).clock = s.clock := rfl
@[simp] theorem State.setSettings_line (c : Settings) : (s.setSettings c).line = s.line := rfl
@[simp] theorem State.setSettings_alerts (c : Settings) : (s.setSettings c).alerts = s.alerts := rfl
@[simp] theorem State.setSettings_port (c : Settings) : (s.setSettings c).port = s.port := rfl
@[simp] theorem State.setSettings_store (c : Settings) : (s.setSettings c).store = s.store := rfl

/-! ### State.setLine -/

@[simp] theorem State.setLine_pending (l : FieldLine) : (s.setLine l).pending = s.pending := rfl
@[simp] theorem State.setLine_now (l : FieldLine) : (s.setLine l).now = s.now := rfl
@[simp] theorem State.setLine_choices (l : FieldLine) : (s.setLine l).choices = s.choices := rfl
@[simp] theorem State.setLine_power (l : FieldLine) : (s.setLine l).power = s.power := rfl
@[simp] theorem State.setLine_strapMade (l : FieldLine) : (s.setLine l).strapMade = s.strapMade := rfl
@[simp] theorem State.setLine_lineSpeed (l : FieldLine) : (s.setLine l).lineSpeed = s.lineSpeed := rfl
@[simp] theorem State.setLine_settings (l : FieldLine) : (s.setLine l).settings = s.settings := rfl
@[simp] theorem State.setLine_holders (l : FieldLine) : (s.setLine l).holders = s.holders := rfl
@[simp] theorem State.setLine_contacts (l : FieldLine) : (s.setLine l).contacts = s.contacts := rfl
@[simp] theorem State.setLine_conditions (l : FieldLine) : (s.setLine l).conditions = s.conditions := rfl
@[simp] theorem State.setLine_valves (l : FieldLine) : (s.setLine l).valves = s.valves := rfl
@[simp] theorem State.setLine_book (l : FieldLine) : (s.setLine l).book = s.book := rfl
@[simp] theorem State.setLine_governors (l : FieldLine) : (s.setLine l).governors = s.governors := rfl
@[simp] theorem State.setLine_districts (l : FieldLine) : (s.setLine l).districts = s.districts := rfl
@[simp] theorem State.setLine_accounts (l : FieldLine) : (s.setLine l).accounts = s.accounts := rfl
@[simp] theorem State.setLine_yard (l : FieldLine) : (s.setLine l).yard = s.yard := rfl
@[simp] theorem State.setLine_clock (l : FieldLine) : (s.setLine l).clock = s.clock := rfl
@[simp] theorem State.setLine_line (l : FieldLine) : (s.setLine l).line = l := rfl
@[simp] theorem State.setLine_alerts (l : FieldLine) : (s.setLine l).alerts = s.alerts := rfl
@[simp] theorem State.setLine_port (l : FieldLine) : (s.setLine l).port = s.port := rfl
@[simp] theorem State.setLine_store (l : FieldLine) : (s.setLine l).store = s.store := rfl

/-! ### State.setAlerts -/

@[simp] theorem State.setAlerts_pending (a : Alerts) : (s.setAlerts a).pending = s.pending := rfl
@[simp] theorem State.setAlerts_now (a : Alerts) : (s.setAlerts a).now = s.now := rfl
@[simp] theorem State.setAlerts_choices (a : Alerts) : (s.setAlerts a).choices = s.choices := rfl
@[simp] theorem State.setAlerts_power (a : Alerts) : (s.setAlerts a).power = s.power := rfl
@[simp] theorem State.setAlerts_strapMade (a : Alerts) : (s.setAlerts a).strapMade = s.strapMade := rfl
@[simp] theorem State.setAlerts_lineSpeed (a : Alerts) : (s.setAlerts a).lineSpeed = s.lineSpeed := rfl
@[simp] theorem State.setAlerts_settings (a : Alerts) : (s.setAlerts a).settings = s.settings := rfl
@[simp] theorem State.setAlerts_holders (a : Alerts) : (s.setAlerts a).holders = s.holders := rfl
@[simp] theorem State.setAlerts_contacts (a : Alerts) : (s.setAlerts a).contacts = s.contacts := rfl
@[simp] theorem State.setAlerts_conditions (a : Alerts) : (s.setAlerts a).conditions = s.conditions := rfl
@[simp] theorem State.setAlerts_valves (a : Alerts) : (s.setAlerts a).valves = s.valves := rfl
@[simp] theorem State.setAlerts_book (a : Alerts) : (s.setAlerts a).book = s.book := rfl
@[simp] theorem State.setAlerts_governors (a : Alerts) : (s.setAlerts a).governors = s.governors := rfl
@[simp] theorem State.setAlerts_districts (a : Alerts) : (s.setAlerts a).districts = s.districts := rfl
@[simp] theorem State.setAlerts_accounts (a : Alerts) : (s.setAlerts a).accounts = s.accounts := rfl
@[simp] theorem State.setAlerts_yard (a : Alerts) : (s.setAlerts a).yard = s.yard := rfl
@[simp] theorem State.setAlerts_clock (a : Alerts) : (s.setAlerts a).clock = s.clock := rfl
@[simp] theorem State.setAlerts_line (a : Alerts) : (s.setAlerts a).line = s.line := rfl
@[simp] theorem State.setAlerts_alerts (a : Alerts) : (s.setAlerts a).alerts = a := rfl
@[simp] theorem State.setAlerts_port (a : Alerts) : (s.setAlerts a).port = s.port := rfl
@[simp] theorem State.setAlerts_store (a : Alerts) : (s.setAlerts a).store = s.store := rfl

/-! ### State.setYard -/

@[simp] theorem State.setYard_pending (y : YardAccount) : (s.setYard y).pending = s.pending := rfl
@[simp] theorem State.setYard_now (y : YardAccount) : (s.setYard y).now = s.now := rfl
@[simp] theorem State.setYard_choices (y : YardAccount) : (s.setYard y).choices = s.choices := rfl
@[simp] theorem State.setYard_power (y : YardAccount) : (s.setYard y).power = s.power := rfl
@[simp] theorem State.setYard_strapMade (y : YardAccount) : (s.setYard y).strapMade = s.strapMade := rfl
@[simp] theorem State.setYard_lineSpeed (y : YardAccount) : (s.setYard y).lineSpeed = s.lineSpeed := rfl
@[simp] theorem State.setYard_settings (y : YardAccount) : (s.setYard y).settings = s.settings := rfl
@[simp] theorem State.setYard_holders (y : YardAccount) : (s.setYard y).holders = s.holders := rfl
@[simp] theorem State.setYard_contacts (y : YardAccount) : (s.setYard y).contacts = s.contacts := rfl
@[simp] theorem State.setYard_conditions (y : YardAccount) : (s.setYard y).conditions = s.conditions := rfl
@[simp] theorem State.setYard_valves (y : YardAccount) : (s.setYard y).valves = s.valves := rfl
@[simp] theorem State.setYard_book (y : YardAccount) : (s.setYard y).book = s.book := rfl
@[simp] theorem State.setYard_governors (y : YardAccount) : (s.setYard y).governors = s.governors := rfl
@[simp] theorem State.setYard_districts (y : YardAccount) : (s.setYard y).districts = s.districts := rfl
@[simp] theorem State.setYard_accounts (y : YardAccount) : (s.setYard y).accounts = s.accounts := rfl
@[simp] theorem State.setYard_yard (y : YardAccount) : (s.setYard y).yard = y := rfl
@[simp] theorem State.setYard_clock (y : YardAccount) : (s.setYard y).clock = s.clock := rfl
@[simp] theorem State.setYard_line (y : YardAccount) : (s.setYard y).line = s.line := rfl
@[simp] theorem State.setYard_alerts (y : YardAccount) : (s.setYard y).alerts = s.alerts := rfl
@[simp] theorem State.setYard_port (y : YardAccount) : (s.setYard y).port = s.port := rfl
@[simp] theorem State.setYard_store (y : YardAccount) : (s.setYard y).store = s.store := rfl

/-! ### State.setClock -/

@[simp] theorem State.setClock_pending (c : Clock) : (s.setClock c).pending = s.pending := rfl
@[simp] theorem State.setClock_now (c : Clock) : (s.setClock c).now = s.now := rfl
@[simp] theorem State.setClock_choices (c : Clock) : (s.setClock c).choices = s.choices := rfl
@[simp] theorem State.setClock_power (c : Clock) : (s.setClock c).power = s.power := rfl
@[simp] theorem State.setClock_strapMade (c : Clock) : (s.setClock c).strapMade = s.strapMade := rfl
@[simp] theorem State.setClock_lineSpeed (c : Clock) : (s.setClock c).lineSpeed = s.lineSpeed := rfl
@[simp] theorem State.setClock_settings (c : Clock) : (s.setClock c).settings = s.settings := rfl
@[simp] theorem State.setClock_holders (c : Clock) : (s.setClock c).holders = s.holders := rfl
@[simp] theorem State.setClock_contacts (c : Clock) : (s.setClock c).contacts = s.contacts := rfl
@[simp] theorem State.setClock_conditions (c : Clock) : (s.setClock c).conditions = s.conditions := rfl
@[simp] theorem State.setClock_valves (c : Clock) : (s.setClock c).valves = s.valves := rfl
@[simp] theorem State.setClock_book (c : Clock) : (s.setClock c).book = s.book := rfl
@[simp] theorem State.setClock_governors (c : Clock) : (s.setClock c).governors = s.governors := rfl
@[simp] theorem State.setClock_districts (c : Clock) : (s.setClock c).districts = s.districts := rfl
@[simp] theorem State.setClock_accounts (c : Clock) : (s.setClock c).accounts = s.accounts := rfl
@[simp] theorem State.setClock_yard (c : Clock) : (s.setClock c).yard = s.yard := rfl
@[simp] theorem State.setClock_clock (c : Clock) : (s.setClock c).clock = c := rfl
@[simp] theorem State.setClock_line (c : Clock) : (s.setClock c).line = s.line := rfl
@[simp] theorem State.setClock_alerts (c : Clock) : (s.setClock c).alerts = s.alerts := rfl
@[simp] theorem State.setClock_port (c : Clock) : (s.setClock c).port = s.port := rfl
@[simp] theorem State.setClock_store (c : Clock) : (s.setClock c).store = s.store := rfl

/-! ### State.setConditions -/

@[simp] theorem State.setConditions_pending (c : Conditions) : (s.setConditions c).pending = s.pending := rfl
@[simp] theorem State.setConditions_now (c : Conditions) : (s.setConditions c).now = s.now := rfl
@[simp] theorem State.setConditions_choices (c : Conditions) : (s.setConditions c).choices = s.choices := rfl
@[simp] theorem State.setConditions_power (c : Conditions) : (s.setConditions c).power = s.power := rfl
@[simp] theorem State.setConditions_strapMade (c : Conditions) : (s.setConditions c).strapMade = s.strapMade := rfl
@[simp] theorem State.setConditions_lineSpeed (c : Conditions) : (s.setConditions c).lineSpeed = s.lineSpeed := rfl
@[simp] theorem State.setConditions_settings (c : Conditions) : (s.setConditions c).settings = s.settings := rfl
@[simp] theorem State.setConditions_holders (c : Conditions) : (s.setConditions c).holders = s.holders := rfl
@[simp] theorem State.setConditions_contacts (c : Conditions) : (s.setConditions c).contacts = s.contacts := rfl
@[simp] theorem State.setConditions_conditions (c : Conditions) : (s.setConditions c).conditions = c := rfl
@[simp] theorem State.setConditions_valves (c : Conditions) : (s.setConditions c).valves = s.valves := rfl
@[simp] theorem State.setConditions_book (c : Conditions) : (s.setConditions c).book = s.book := rfl
@[simp] theorem State.setConditions_governors (c : Conditions) : (s.setConditions c).governors = s.governors := rfl
@[simp] theorem State.setConditions_districts (c : Conditions) : (s.setConditions c).districts = s.districts := rfl
@[simp] theorem State.setConditions_accounts (c : Conditions) : (s.setConditions c).accounts = s.accounts := rfl
@[simp] theorem State.setConditions_yard (c : Conditions) : (s.setConditions c).yard = s.yard := rfl
@[simp] theorem State.setConditions_clock (c : Conditions) : (s.setConditions c).clock = s.clock := rfl
@[simp] theorem State.setConditions_line (c : Conditions) : (s.setConditions c).line = s.line := rfl
@[simp] theorem State.setConditions_alerts (c : Conditions) : (s.setConditions c).alerts = s.alerts := rfl
@[simp] theorem State.setConditions_port (c : Conditions) : (s.setConditions c).port = s.port := rfl
@[simp] theorem State.setConditions_store (c : Conditions) : (s.setConditions c).store = s.store := rfl

/-! ### State.setPort -/

@[simp] theorem State.setPort_pending (p : Port) : (s.setPort p).pending = s.pending := rfl
@[simp] theorem State.setPort_now (p : Port) : (s.setPort p).now = s.now := rfl
@[simp] theorem State.setPort_choices (p : Port) : (s.setPort p).choices = s.choices := rfl
@[simp] theorem State.setPort_power (p : Port) : (s.setPort p).power = s.power := rfl
@[simp] theorem State.setPort_strapMade (p : Port) : (s.setPort p).strapMade = s.strapMade := rfl
@[simp] theorem State.setPort_lineSpeed (p : Port) : (s.setPort p).lineSpeed = s.lineSpeed := rfl
@[simp] theorem State.setPort_settings (p : Port) : (s.setPort p).settings = s.settings := rfl
@[simp] theorem State.setPort_holders (p : Port) : (s.setPort p).holders = s.holders := rfl
@[simp] theorem State.setPort_contacts (p : Port) : (s.setPort p).contacts = s.contacts := rfl
@[simp] theorem State.setPort_conditions (p : Port) : (s.setPort p).conditions = s.conditions := rfl
@[simp] theorem State.setPort_valves (p : Port) : (s.setPort p).valves = s.valves := rfl
@[simp] theorem State.setPort_book (p : Port) : (s.setPort p).book = s.book := rfl
@[simp] theorem State.setPort_governors (p : Port) : (s.setPort p).governors = s.governors := rfl
@[simp] theorem State.setPort_districts (p : Port) : (s.setPort p).districts = s.districts := rfl
@[simp] theorem State.setPort_accounts (p : Port) : (s.setPort p).accounts = s.accounts := rfl
@[simp] theorem State.setPort_yard (p : Port) : (s.setPort p).yard = s.yard := rfl
@[simp] theorem State.setPort_clock (p : Port) : (s.setPort p).clock = s.clock := rfl
@[simp] theorem State.setPort_line (p : Port) : (s.setPort p).line = s.line := rfl
@[simp] theorem State.setPort_alerts (p : Port) : (s.setPort p).alerts = s.alerts := rfl
@[simp] theorem State.setPort_port (p : Port) : (s.setPort p).port = p := rfl
@[simp] theorem State.setPort_store (p : Port) : (s.setPort p).store = s.store := rfl

/-! ### State.setStore -/

@[simp] theorem State.setStore_pending (x : Store) : (s.setStore x).pending = s.pending := rfl
@[simp] theorem State.setStore_now (x : Store) : (s.setStore x).now = s.now := rfl
@[simp] theorem State.setStore_choices (x : Store) : (s.setStore x).choices = s.choices := rfl
@[simp] theorem State.setStore_power (x : Store) : (s.setStore x).power = s.power := rfl
@[simp] theorem State.setStore_strapMade (x : Store) : (s.setStore x).strapMade = s.strapMade := rfl
@[simp] theorem State.setStore_lineSpeed (x : Store) : (s.setStore x).lineSpeed = s.lineSpeed := rfl
@[simp] theorem State.setStore_settings (x : Store) : (s.setStore x).settings = s.settings := rfl
@[simp] theorem State.setStore_holders (x : Store) : (s.setStore x).holders = s.holders := rfl
@[simp] theorem State.setStore_contacts (x : Store) : (s.setStore x).contacts = s.contacts := rfl
@[simp] theorem State.setStore_conditions (x : Store) : (s.setStore x).conditions = s.conditions := rfl
@[simp] theorem State.setStore_valves (x : Store) : (s.setStore x).valves = s.valves := rfl
@[simp] theorem State.setStore_book (x : Store) : (s.setStore x).book = s.book := rfl
@[simp] theorem State.setStore_governors (x : Store) : (s.setStore x).governors = s.governors := rfl
@[simp] theorem State.setStore_districts (x : Store) : (s.setStore x).districts = s.districts := rfl
@[simp] theorem State.setStore_accounts (x : Store) : (s.setStore x).accounts = s.accounts := rfl
@[simp] theorem State.setStore_yard (x : Store) : (s.setStore x).yard = s.yard := rfl
@[simp] theorem State.setStore_clock (x : Store) : (s.setStore x).clock = s.clock := rfl
@[simp] theorem State.setStore_line (x : Store) : (s.setStore x).line = s.line := rfl
@[simp] theorem State.setStore_alerts (x : Store) : (s.setStore x).alerts = s.alerts := rfl
@[simp] theorem State.setStore_port (x : Store) : (s.setStore x).port = s.port := rfl
@[simp] theorem State.setStore_store (x : Store) : (s.setStore x).store = x := rfl

/-! ### State.setContacts -/

@[simp] theorem State.setContacts_pending (c : Contacts) : (s.setContacts c).pending = s.pending := rfl
@[simp] theorem State.setContacts_now (c : Contacts) : (s.setContacts c).now = s.now := rfl
@[simp] theorem State.setContacts_choices (c : Contacts) : (s.setContacts c).choices = s.choices := rfl
@[simp] theorem State.setContacts_power (c : Contacts) : (s.setContacts c).power = s.power := rfl
@[simp] theorem State.setContacts_strapMade (c : Contacts) : (s.setContacts c).strapMade = s.strapMade := rfl
@[simp] theorem State.setContacts_lineSpeed (c : Contacts) : (s.setContacts c).lineSpeed = s.lineSpeed := rfl
@[simp] theorem State.setContacts_settings (c : Contacts) : (s.setContacts c).settings = s.settings := rfl
@[simp] theorem State.setContacts_holders (c : Contacts) : (s.setContacts c).holders = s.holders := rfl
@[simp] theorem State.setContacts_contacts (c : Contacts) : (s.setContacts c).contacts = c := rfl
@[simp] theorem State.setContacts_conditions (c : Contacts) : (s.setContacts c).conditions = s.conditions := rfl
@[simp] theorem State.setContacts_valves (c : Contacts) : (s.setContacts c).valves = s.valves := rfl
@[simp] theorem State.setContacts_book (c : Contacts) : (s.setContacts c).book = s.book := rfl
@[simp] theorem State.setContacts_governors (c : Contacts) : (s.setContacts c).governors = s.governors := rfl
@[simp] theorem State.setContacts_districts (c : Contacts) : (s.setContacts c).districts = s.districts := rfl
@[simp] theorem State.setContacts_accounts (c : Contacts) : (s.setContacts c).accounts = s.accounts := rfl
@[simp] theorem State.setContacts_yard (c : Contacts) : (s.setContacts c).yard = s.yard := rfl
@[simp] theorem State.setContacts_clock (c : Contacts) : (s.setContacts c).clock = s.clock := rfl
@[simp] theorem State.setContacts_line (c : Contacts) : (s.setContacts c).line = s.line := rfl
@[simp] theorem State.setContacts_alerts (c : Contacts) : (s.setContacts c).alerts = s.alerts := rfl
@[simp] theorem State.setContacts_port (c : Contacts) : (s.setContacts c).port = s.port := rfl
@[simp] theorem State.setContacts_store (c : Contacts) : (s.setContacts c).store = s.store := rfl

/-! ### State.setContact -/

@[simp] theorem State.setContact_pending (c : ContactId) (x : Contact) : (s.setContact c x).pending = s.pending := rfl
@[simp] theorem State.setContact_now (c : ContactId) (x : Contact) : (s.setContact c x).now = s.now := rfl
@[simp] theorem State.setContact_choices (c : ContactId) (x : Contact) : (s.setContact c x).choices = s.choices := rfl
@[simp] theorem State.setContact_power (c : ContactId) (x : Contact) : (s.setContact c x).power = s.power := rfl
@[simp] theorem State.setContact_strapMade (c : ContactId) (x : Contact) : (s.setContact c x).strapMade = s.strapMade := rfl
@[simp] theorem State.setContact_lineSpeed (c : ContactId) (x : Contact) : (s.setContact c x).lineSpeed = s.lineSpeed := rfl
@[simp] theorem State.setContact_settings (c : ContactId) (x : Contact) : (s.setContact c x).settings = s.settings := rfl
@[simp] theorem State.setContact_holders (c : ContactId) (x : Contact) : (s.setContact c x).holders = s.holders := rfl
@[simp] theorem State.setContact_contacts (c : ContactId) (x : Contact) : (s.setContact c x).contacts = s.contacts.put c x := rfl
@[simp] theorem State.setContact_conditions (c : ContactId) (x : Contact) : (s.setContact c x).conditions = s.conditions := rfl
@[simp] theorem State.setContact_valves (c : ContactId) (x : Contact) : (s.setContact c x).valves = s.valves := rfl
@[simp] theorem State.setContact_book (c : ContactId) (x : Contact) : (s.setContact c x).book = s.book := rfl
@[simp] theorem State.setContact_governors (c : ContactId) (x : Contact) : (s.setContact c x).governors = s.governors := rfl
@[simp] theorem State.setContact_districts (c : ContactId) (x : Contact) : (s.setContact c x).districts = s.districts := rfl
@[simp] theorem State.setContact_accounts (c : ContactId) (x : Contact) : (s.setContact c x).accounts = s.accounts := rfl
@[simp] theorem State.setContact_yard (c : ContactId) (x : Contact) : (s.setContact c x).yard = s.yard := rfl
@[simp] theorem State.setContact_clock (c : ContactId) (x : Contact) : (s.setContact c x).clock = s.clock := rfl
@[simp] theorem State.setContact_line (c : ContactId) (x : Contact) : (s.setContact c x).line = s.line := rfl
@[simp] theorem State.setContact_alerts (c : ContactId) (x : Contact) : (s.setContact c x).alerts = s.alerts := rfl
@[simp] theorem State.setContact_port (c : ContactId) (x : Contact) : (s.setContact c x).port = s.port := rfl
@[simp] theorem State.setContact_store (c : ContactId) (x : Contact) : (s.setContact c x).store = s.store := rfl

/-! ### Readers after writers -/

@[simp] theorem State.holder_setHolder_same (h : HolderId) (x : Holder) : (s.setHolder h x).holder h = x := by
  simp [State.holder]

theorem State.holder_setHolder (h k : HolderId) (x : Holder) :
    (s.setHolder h x).holder k = if h = k then x else s.holder k := by
  simp [State.holder, Vector.getElem_set, Fin.ext_iff]

@[simp] theorem State.valve_setValve_same (v : ValveId) (x : Valve) : (s.setValve v x).valve v = x := by
  simp [State.valve]

theorem State.valve_setValve (v w : ValveId) (x : Valve) :
    (s.setValve v x).valve w = if v = w then x else s.valve w := by
  simp [State.valve, Vector.getElem_set, Fin.ext_iff]

@[simp] theorem State.governor_setGovernor_same (g : GovernorId) (x : Governor) : (s.setGovernor g x).governor g = x := by
  simp [State.governor]

theorem State.governor_setGovernor (g k : GovernorId) (x : Governor) :
    (s.setGovernor g x).governor k = if g = k then x else s.governor k := by
  simp [State.governor, Vector.getElem_set, Fin.ext_iff]

@[simp] theorem State.district_setDistrict_same (d : DistrictId) (x : District) : (s.setDistrict d x).district d = x := by
  simp [State.district]

theorem State.district_setDistrict (d k : DistrictId) (x : District) :
    (s.setDistrict d x).district k = if d = k then x else s.district k := by
  simp [State.district, Vector.getElem_set, Fin.ext_iff]

@[simp] theorem State.account_setAccount_same (d : DistrictId) (x : Account) : (s.setAccount d x).account d = x := by
  simp [State.account]

theorem State.account_setAccount (d k : DistrictId) (x : Account) :
    (s.setAccount d x).account k = if d = k then x else s.account k := by
  simp [State.account, Vector.getElem_set, Fin.ext_iff]

/-- A contact after a contact is written: the one written, and every other as before. -/
theorem Contacts.get_put (cs : Contacts) (c k : ContactId) (x : Contact) :
    (cs.put c x).get k = if c = k then x else cs.get k := by
  cases c <;> cases k <;> simp [Contacts.put, Contacts.get, Vector.getElem_set, Fin.ext_iff]

theorem State.contact_setContact (c k : ContactId) (x : Contact) :
    (s.setContact c x).contact k = if c = k then x else s.contact k := Contacts.get_put s.contacts c k x

/-- Writing a record with what it holds changes nothing. -/
@[simp] theorem State.setHolder_self (h : HolderId) : s.setHolder h (s.holder h) = s := by
  simp [State.setHolder, State.holder]

@[simp] theorem State.setValve_self (v : ValveId) : s.setValve v (s.valve v) = s := by
  simp [State.setValve, State.valve]

@[simp] theorem State.setGovernor_self (g : GovernorId) : s.setGovernor g (s.governor g) = s := by
  simp [State.setGovernor, State.governor]

end Sys2Proof.Machine
end

