-- ==== Sys2Proof/Laws/Frames.lean ====
section
/-! SUPPORT. What each shared operation may change, said once: its frame over the parts of the state. A proof about a
command cites these in place of unfolding the operation. -/

namespace Sys2Proof.Machine

/-- From s to t only the records of the parts listed may differ; the queue and the model's clock are as before. -/
structure Frame (ps : List Part) (s t : State) : Prop where
  pending : t.pending = s.pending
  now : t.now = s.now
  parts : ∀ p, p ∉ ps → s.Agrees t p

variable {ps qs : List Part} {s t u : State}

theorem State.Agrees.trans {p : Part} (h : s.Agrees t p) (k : t.Agrees u p) : s.Agrees u p := by
  cases p <;> simp only [State.Agrees] at * <;> simp_all

theorem Frame.refl (s : State) : Frame ps s s :=
  ⟨rfl, rfl, fun p _ => by cases p <;> simp [State.Agrees]⟩

theorem Frame.trans (h : Frame ps s t) (k : Frame ps t u) : Frame ps s u :=
  ⟨k.pending.trans h.pending, k.now.trans h.now, fun p hp => (h.parts p hp).trans (k.parts p hp)⟩

theorem Frame.mono (h : Frame ps s t) (hs : ps ⊆ qs) : Frame qs s t :=
  ⟨h.pending, h.now, fun p hp => h.parts p fun hm => hp (hs hm)⟩

/-- An operation taken for each item of a list keeps the frame that it keeps for one. -/
theorem Frame.forEach {ι : Type} {f : ι → State → State} (hf : ∀ x t, Frame ps t (f x t)) :
    ∀ (xs : List ι) (s : State), Frame ps s (forEach xs f s)
  | [], s => Frame.refl s
  | x :: xs, s => (hf x s).trans (Frame.forEach hf xs (f x s))

/-! ## Writers of one record -/

theorem frame_setHolder (h : HolderId) (x : Holder) : Frame [.holders] s (s.setHolder h x) :=
  ⟨rfl, rfl, fun p hp => by cases p <;> simp_all [State.Agrees]⟩

theorem frame_setValve (v : ValveId) (x : Valve) : Frame [.valves] s (s.setValve v x) :=
  ⟨rfl, rfl, fun p hp => by cases p <;> simp_all [State.Agrees]⟩

theorem frame_setGovernor (g : GovernorId) (x : Governor) : Frame [.governors] s (s.setGovernor g x) :=
  ⟨rfl, rfl, fun p hp => by cases p <;> simp_all [State.Agrees]⟩

theorem frame_setDistrict (d : DistrictId) (x : District) : Frame [.districts] s (s.setDistrict d x) :=
  ⟨rfl, rfl, fun p hp => by cases p <;> simp_all [State.Agrees]⟩

theorem frame_setAccount (d : DistrictId) (x : Account) : Frame [.accounts] s (s.setAccount d x) :=
  ⟨rfl, rfl, fun p hp => by cases p <;> simp_all [State.Agrees]⟩

theorem frame_setOrders (os : List Order) : Frame [.book] s (s.setOrders os) :=
  ⟨rfl, rfl, fun p hp => by cases p <;> simp_all [State.Agrees]⟩

theorem frame_setAlerts (a : Alerts) : Frame [.alerts] s (s.setAlerts a) :=
  ⟨rfl, rfl, fun p hp => by cases p <;> simp_all [State.Agrees]⟩

theorem frame_setLine (l : FieldLine) : Frame [.line] s (s.setLine l) :=
  ⟨rfl, rfl, fun p hp => by cases p <;> simp_all [State.Agrees]⟩

theorem frame_setYard (y : YardAccount) : Frame [.yard] s (s.setYard y) :=
  ⟨rfl, rfl, fun p hp => by cases p <;> simp_all [State.Agrees]⟩

theorem frame_setClock (c : Clock) : Frame [.clock] s (s.setClock c) :=
  ⟨rfl, rfl, fun p hp => by cases p <;> simp_all [State.Agrees]⟩

theorem frame_setConditions (c : Conditions) : Frame [.conditions] s (s.setConditions c) :=
  ⟨rfl, rfl, fun p hp => by cases p <;> simp_all [State.Agrees]⟩

theorem frame_setPort (x : Port) : Frame [.port] s (s.setPort x) :=
  ⟨rfl, rfl, fun p hp => by cases p <;> simp_all [State.Agrees]⟩

theorem frame_setStore (x : Store) : Frame [.store] s (s.setStore x) :=
  ⟨rfl, rfl, fun p hp => by cases p <;> simp_all [State.Agrees]⟩

theorem frame_setContact (c : ContactId) (x : Contact) : Frame [.contacts] s (s.setContact c x) :=
  ⟨rfl, rfl, fun p hp => by cases p <;> simp_all [State.Agrees]⟩

/-! ## Alerts and valves -/

/-- Raising an event touches the alerts alone. -/
theorem frame_raise (k : CauseKind) (item : Nat) : Frame [.alerts] s (s.raise k item) := by
  unfold State.raise
  dsimp only
  repeat' split
  all_goals first | exact Frame.refl s | exact frame_setAlerts _

/-- Reporting clearings touches the alerts alone. -/
theorem frame_reportClearings : Frame [.alerts] s s.reportClearings := frame_setAlerts _

/-- What holds does not depend on what the alert unit keeps. -/
@[simp] theorem State.conditionsHolding_setAlerts (a : Alerts) : (s.setAlerts a).conditionsHolding = s.conditionsHolding := rfl

@[simp] theorem State.conditionsHolding_reportClearings : s.reportClearings.conditionsHolding = s.conditionsHolding := rfl

/-- The instances that stay when clearings are reported: the events, and the conditions that hold. -/
theorem State.mem_reportClearings_list (p : Pending) :
    p ∈ s.reportClearings.alerts.list ↔
      p ∈ s.alerts.list ∧ (p.cause.kind.isEvent = true ∨ p.cause ∈ s.conditionsHolding) := by
  simp [State.reportClearings]

/-- The conditions held after clearings are reported: those held before that hold still. -/
theorem State.mem_reportClearings_holds (c : Cause) :
    c ∈ s.reportClearings.alerts.holds ↔ c ∈ s.alerts.holds ∧ c ∈ s.conditionsHolding := by
  simp [State.reportClearings]

@[simp] theorem State.reportClearings_fresh : s.reportClearings.alerts.fresh = s.alerts.fresh := rfl

/-- Where everything held still holds, reporting clearings changes nothing. -/
theorem State.reportClearings_self (hl : ∀ p ∈ s.alerts.list, p.cause.kind.isEvent = true ∨ p.cause ∈ s.conditionsHolding)
    (hh : ∀ c ∈ s.alerts.holds, c ∈ s.conditionsHolding) : s.reportClearings = s := by
  have l : (s.alerts.list.filter fun p => p.cause.kind.isEvent || s.conditionsHolding.contains p.cause) = s.alerts.list :=
    List.filter_eq_self.2 (by simpa using hl)
  have h : s.alerts.holds.filter s.conditionsHolding.contains = s.alerts.holds := List.filter_eq_self.2 (by simpa using hh)
  unfold State.reportClearings
  dsimp only
  rw [l, h]
  rfl

/-- Settling a step touches the alerts alone. -/
theorem frame_settle : Frame [.alerts] s s.settle :=
  (frame_setAlerts _).trans (frame_setAlerts _)

/-- A command touches the valves alone. -/
theorem frame_command (v : ValveId) (w : Toward) : Frame [.valves] s (s.command v w) := by
  unfold State.command
  split
  · exact frame_setValve _ _
  · exact Frame.refl s

/-- A command touches no valve but the one it names. -/
theorem valve_command_other (v u : ValveId) (w : Toward) (h : u ≠ v) : (s.command v w).valve u = s.valve u := by
  unfold State.command
  split
  · simp [State.valve_setValve, Ne.symm h]
  · rfl

/-! ## Orders -/

/-- The parts an end of an order may change. -/
abbrev endParts : List Part := [.book, .alerts]

/-- The parts a FILL's events may change. -/
abbrev fillParts : List Part := [.valves, .book, .alerts]

theorem frame_putOrder (o : Order) : Frame [.book] s (s.putOrder o) := frame_setOrders _

theorem frame_endOrder (n : Nat) (r : EndReason) : Frame endParts s (s.endOrder n r) := by
  unfold State.endOrder
  repeat' split
  · exact Frame.refl s
  · exact Frame.refl s
  · exact ((frame_putOrder _).mono (by simp)).trans ((frame_raise _ _).mono (by simp))

theorem frame_foldl_endOrder (r : EndReason) :
    ∀ (os : List Order) (s : State), Frame endParts s (os.foldl (fun t o => t.endOrder o.number r) s)
  | [], _ => Frame.refl _
  | o :: os, _ => (frame_endOrder o.number r).trans (frame_foldl_endOrder r os _)

theorem frame_endWhere (f : Order → Bool) (r : EndReason) : Frame endParts s (s.endWhere f r) :=
  frame_foldl_endOrder r _ s

theorem frame_enterFilling (o : Order) : Frame fillParts s (s.enterFilling o) := by
  unfold State.enterFilling
  repeat' split
  · exact Frame.refl s
  · exact (frame_putOrder _).mono (by simp)
  · exact (((frame_putOrder _).mono (by simp)).trans ((frame_command _ _).mono (by simp))).trans
      ((frame_endOrder _ _).mono (by simp))
  · exact (frame_putOrder _).mono (by simp)

theorem frame_startFill (o : Order) : Frame fillParts s (s.startFill o) := by
  have put : ∀ (t : State) x, Frame fillParts t (t.putOrder x) := fun t x => (frame_putOrder x).mono (by simp)
  have cmd : ∀ (t : State) v, Frame fillParts t (t.command v .toOpen) := fun t v => (frame_command v _).mono (by simp)
  unfold State.startFill
  split
  · exact Frame.refl s
  · exact (frame_endOrder _ _).mono (by simp)
  · dsimp only
    split
    · exact (put _ _).trans ((frame_endOrder _ _).mono (by simp))
    · split
      · exact ((put _ _).trans (cmd _ _)).trans (frame_enterFilling _)
      · exact (put _ _).trans (cmd _ _)

theorem frame_fillQueue : ∀ (k : Nat) (h : HolderId) (s : State), Frame fillParts s (s.fillQueue k h)
  | 0, _, s => Frame.refl s
  | k + 1, h, s => by
    unfold State.fillQueue
    repeat' split
    · exact Frame.refl s
    · exact (frame_startFill _).trans (frame_fillQueue k h _)
    · exact Frame.refl s

theorem frame_fillRule (h : HolderId) : Frame fillParts s (s.fillRule h) := frame_fillQueue _ h s

theorem frame_stopFill (o : Order) (r : EndReason) : Frame fillParts s (s.stopFill o r) :=
  (((frame_command _ _).mono (by simp)).trans ((frame_endOrder _ _).mono (by simp))).trans (frame_fillRule _)

theorem frame_fillStockTest (h : HolderId) (e : Bool) : Frame fillParts s (s.fillStockTest h e) := by
  unfold State.fillStockTest
  repeat' split
  all_goals first | exact Frame.refl s | exact frame_stopFill _ _

theorem frame_tripActivated : Frame fillParts s s.tripActivated :=
  ((Frame.forEach (fun h t => (frame_command (s := t) (inletOf h) .toShut).mono (by simp)) _ _).trans
    ((frame_endWhere _ _).mono (by simp))).trans (Frame.forEach (fun h t => frame_fillRule (s := t) h) _ _)

/-! ## Supply -/

/-- The parts the supply unit's events may change. -/
abbrev supplyParts : List Part := [.valves, .book, .governors, .alerts]

theorem frame_refresh (g : GovernorId) : Frame [.governors, .alerts] s (s.refresh g) :=
  ((frame_setGovernor g _).mono (by simp)).trans (frame_reportClearings.mono (by simp))

theorem frame_recombine (g : GovernorId) : Frame [.governors] s (s.recombine g) := frame_setGovernor g _

theorem frame_evaluateDistrict (d : DistrictId) : Frame [.districts, .governors] s (s.evaluateDistrict d) := by
  unfold State.evaluateDistrict
  dsimp only
  split
  · exact ((frame_setDistrict _ _).mono (by simp)).trans ((frame_recombine _).mono (by simp))
  · exact (frame_setDistrict _ _).mono (by simp)

theorem frame_endLeading (g : GovernorId) (r : EndReason) : Frame endParts s (s.endLeading g r) := frame_endWhere _ _

theorem frame_makeLead (g : GovernorId) (h : HolderId) (o : LeadOrigin) : Frame supplyParts s (s.makeLead g h o) := by
  have lead : ∀ t x, Frame supplyParts t (State.setGovernor t g x) := fun t x => (frame_setGovernor g x).mono (by simp)
  have leading : ∀ t : State, Frame supplyParts t (t.endLeading g .relieved) := fun t =>
    (frame_endLeading g .relieved).mono (by simp)
  have fresh : ∀ t : State, Frame supplyParts t (t.refresh g) := fun t => (frame_refresh g).mono (by simp)
  have done : ∀ t : State, Frame supplyParts t (t.raise .changeoverDone (itemNo g)) := fun t =>
    (frame_raise _ _).mono (by simp)
  have shut : ∀ (t : State) v, Frame supplyParts t (t.command v .toShut) := fun t v => (frame_command v _).mono (by simp)
  unfold State.makeLead
  dsimp only
  repeat' split
  · exact ((((lead _ _).trans (leading _)).trans (lead _ _)).trans (fresh _)).trans (done _)
  · exact (lead _ _).trans (leading _)
  · exact (((((lead _ _).trans (shut _ _)).trans (leading _)).trans (lead _ _)).trans (fresh _)).trans (done _)

theorem frame_removeLead (g : GovernorId) (r : EndReason) : Frame supplyParts s (s.removeLead g r) :=
  (((frame_setGovernor _ _).mono (by simp)).trans ((frame_refresh g).mono (by simp))).trans
    ((frame_endLeading g r).mono (by simp))

theorem frame_completeOrdered (g : GovernorId) (o : Order) : Frame supplyParts s (s.completeOrdered g o) :=
  (frame_makeLead _ _ _).trans ((frame_putOrder _).mono (by simp))

theorem frame_startSend (g : GovernorId) (o : Order) : Frame supplyParts s (s.startSend g o) := by
  have put : ∀ (t : State) x, Frame supplyParts t (t.putOrder x) := fun t x => (frame_putOrder x).mono (by simp)
  have slot : ∀ t x, Frame supplyParts t (State.setGovernor t g x) := fun t x => (frame_setGovernor g x).mono (by simp)
  have cmd : ∀ (t : State) v, Frame supplyParts t (t.command v .toOpen) := fun t v => (frame_command v _).mono (by simp)
  unfold State.startSend
  dsimp only
  repeat' split
  · exact (frame_endOrder _ _).mono (by simp)
  · exact (((put _ _).trans (slot _ _)).trans (cmd _ _)).trans (frame_completeOrdered _ _)
  · exact ((put _ _).trans (slot _ _)).trans (cmd _ _)

theorem frame_sendQueue : ∀ (k : Nat) (g : GovernorId) (s : State), Frame supplyParts s (s.sendQueue k g)
  | 0, _, s => Frame.refl s
  | k + 1, g, s => by
    unfold State.sendQueue
    split
    · exact Frame.refl s
    · exact (frame_startSend _ _).trans (frame_sendQueue k g _)

theorem frame_sendRule (g : GovernorId) : Frame supplyParts s (s.sendRule g) := frame_sendQueue _ g s

theorem frame_startAutomatic (g : GovernorId) (h : HolderId) : Frame supplyParts s (s.startAutomatic g h) := by
  have start : ∀ t x v, Frame supplyParts t (State.command (State.setGovernor t g x) v .toOpen) := fun t x v =>
    ((frame_setGovernor g x).mono (by simp)).trans ((frame_command v _).mono (by simp))
  unfold State.startAutomatic
  dsimp only
  split
  · exact (start _ _ _).trans (frame_makeLead _ _ _)
  · exact start _ _ _

theorem frame_attempt (g : GovernorId) (w : Triggers) : Frame supplyParts s (s.attempt g w) := by
  unfold State.attempt
  split
  · exact frame_startAutomatic _ _
  · exact ((frame_setGovernor _ _).mono (by simp)).trans ((frame_raise _ _).mono (by simp))

theorem frame_takeDeferred (g : GovernorId) : Frame supplyParts s (s.takeDeferred g) := by
  unfold State.takeDeferred
  dsimp only
  split
  · exact ((frame_setGovernor _ _).mono (by simp)).trans (frame_attempt _ _)
  · exact (frame_setGovernor _ _).mono (by simp)

theorem frame_slotFreedIn : ∀ (k : Nat) (g : GovernorId) (s : State), Frame supplyParts s (s.slotFreedIn k g)
  | 0, _, s => Frame.refl s
  | k + 1, g, s => by
    unfold State.slotFreedIn
    dsimp only
    split
    · exact frame_sendRule g
    · exact ((frame_sendRule g).trans (frame_takeDeferred g)).trans (frame_slotFreedIn k g _)

theorem frame_slotFreed (g : GovernorId) : Frame supplyParts s (s.slotFreed g) := frame_slotFreedIn 2 g s

theorem frame_trigger (g : GovernorId) (w : Triggers) : Frame supplyParts s (s.trigger g w) := by
  unfold State.trigger State.afterAttempt
  repeat' split
  · exact Frame.refl s
  · exact (frame_setGovernor _ _).mono (by simp)
  · exact (frame_attempt _ _).trans (frame_slotFreed g)
  · exact frame_attempt _ _

theorem frame_rejudge (g : GovernorId) (w : Triggers) : Frame supplyParts s (s.rejudge g w) :=
  ((frame_refresh g).mono (by simp)).trans (frame_trigger _ _)

theorem frame_silentRetry (g : GovernorId) : Frame supplyParts s (s.silentRetry g) := by
  unfold State.silentRetry State.afterAttempt
  repeat' split
  · exact (frame_startAutomatic _ _).trans (frame_slotFreed g)
  · exact frame_startAutomatic _ _
  · exact Frame.refl s
  · exact Frame.refl s

theorem frame_trimStep (g : GovernorId) (kept : Bool) : Frame supplyParts s (s.trimStep g kept) := by
  have moved : ∀ x, Frame supplyParts s (s.setGovernor g x) := fun x => (frame_setGovernor g x).mono (by simp)
  unfold State.trimStep
  dsimp only
  split
  · exact Frame.refl s
  · split
    · exact (moved _).trans (frame_rejudge _ _)
    · exact (moved _).trans ((frame_refresh g).mono (by simp))

theorem frame_endChangeover (g : GovernorId) (c : Changeover) (r : EndReason) (raises : Bool) :
    Frame supplyParts s (s.endChangeover g c r raises) := by
  have slot : ∀ t x, Frame supplyParts t (State.setGovernor t g x) := fun t x => (frame_setGovernor g x).mono (by simp)
  have fails : ∀ t : State, Frame supplyParts t (t.raise .changeoverFailed (itemNo g)) := fun t =>
    (frame_raise _ _).mono (by simp)
  unfold State.endChangeover
  dsimp only
  split
  · refine Frame.trans ?_ (fails _)
    split
    · exact ((frame_endOrder _ _).mono (by simp)).trans (slot _ _)
    · exact slot _ _
  · split
    · exact ((frame_endOrder _ _).mono (by simp)).trans (slot _ _)
    · exact slot _ _

theorem frame_failChangeover (g : GovernorId) (c : Changeover) (r : EndReason) :
    Frame supplyParts s (s.failChangeover g c r) :=
  (frame_endChangeover g c r true).trans (frame_slotFreed g)

theorem frame_supplyTakesStock (h : HolderId) (low cross : Bool) (g : GovernorId) :
    Frame supplyParts s (s.supplyTakesStock h low cross g) := by
  unfold State.supplyTakesStock
  dsimp only
  have first : Frame supplyParts s
      (if s.leads h g then
        if low then (s.removeLead g .lowStop).trigger g removalTrigger
        else s.rejudge g ⟨cross, false, false⟩
      else s) := by
    repeat' split
    · exact (frame_removeLead _ _).trans (frame_trigger _ _)
    · exact frame_rejudge _ _
    · exact Frame.refl s
  refine Frame.trans first ?_
  generalize (if s.leads h g then _ else s) = x
  repeat' split
  · exact Frame.refl x
  · exact frame_failChangeover _ _ _
  · exact ((frame_command _ _).mono (by simp)).trans (frame_failChangeover _ _ _)
  · exact Frame.refl x
  · exact Frame.refl x

/-! ## Stock and gauges -/

/-- The parts a change of a holder's stock may change. -/
abbrev stockParts : List Part := [.holders, .valves, .book, .governors, .alerts]

theorem frame_limitCommands (h : HolderId) (old new : LimitCondition) : Frame [.valves] s (s.limitCommands h old new) := by
  unfold State.limitCommands
  repeat' split
  · exact Frame.refl s
  · exact Frame.forEach (fun g t => frame_command (s := t) _ _) _ _
  · exact frame_command _ _
  all_goals exact Frame.refl s

theorem frame_handOn (h : HolderId) (old new : LimitCondition) : Frame supplyParts s (s.handOn h old new) :=
  (((frame_limitCommands _ _ _).mono (by simp)).trans ((frame_fillStockTest _ _).mono (by simp))).trans
    (Frame.forEach (fun g t => frame_supplyTakesStock (s := t) _ _ _ g) _ _)

theorem frame_recompute (e : Bool) (h : HolderId) : Frame stockParts s (s.recompute e h) := by
  unfold State.recompute
  dsimp only
  split
  · exact ((frame_setHolder _ _).mono (by simp)).trans ((frame_handOn _ _ _).mono (by simp))
  · exact (frame_setHolder _ _).mono (by simp)

theorem frame_gaugeChange (h : HolderId) (n : Nat) (x : GaugeStatus) : Frame stockParts s (s.gaugeChange h n x) := by
  unfold State.gaugeChange
  dsimp only
  split
  · exact Frame.refl s
  · exact ((frame_setHolder _ _).mono (by simp)).trans (frame_recompute _ _)

theorem frame_encoderStep (h : HolderId) (p : PhasePair) : Frame stockParts s (s.encoderStep h p) := by
  unfold State.encoderStep
  dsimp only
  split
  · exact Frame.refl s
  · exact ((frame_setHolder _ _).mono (by simp)).trans (frame_gaugeChange _ _ _)

/-- A raw change touches the contacts alone, or for the strap the part that holds it. -/
theorem frame_rawChange (i : RawInput) (l : Level) : Frame [.contacts, .power] s (s.rawChange i l) := by
  cases i with
  | contact c =>
    simp only [State.rawChange]
    split <;> exact (frame_setContact c _).mono (by simp)
  | strap => exact ⟨rfl, rfl, fun p hp => by cases p <;> simp_all [State.Agrees, State.rawChange]⟩

@[simp] theorem State.rawChange_strap (l : Level) : s.rawChange .strap l = { s with strapMade := l == .closed } := rfl

/-! ## The first cycle of a start -/

/-- What starting a cycle leaves of the line (R131): the station at place 1 called, or nothing with an empty roster. -/
theorem firstCycle_startCycle (s : State) : s.startCycle.FirstCycle := by
  rcases h : s.line.roster with _ | ⟨st, _⟩
  · simp [State.startCycle, State.FirstCycle, h, State.setLine]
  · simp [State.startCycle, State.FirstCycle, h, State.setLine, State.callFor, State.governor, State.yardCfg]
    all_goals rfl

end Sys2Proof.Machine
end

