-- ==== Sys2Proof/Tests/Slice0.lean ====
section
/-! SUPPORT. The model's own tests: worked cases of the manual, the refusals of the well-formedness checks, and for each
statement a state and operands that meet its hypotheses together. -/

namespace Sys2Proof.Tests

set_option Elab.async false

open Sys2Proof Sys2Proof.Machine

/-- The next state that a command answers; the state itself where it answers none. -/
def after (c : Instr) (s : State) : State :=
  match exec c s with
  | .next t => t
  | .fault _ => s
  | .refused _ => s

/-! ## Worked cases of the manual -/

/-- R187: the nine ASCII bytes "123456789" leave the register at 0x29B1. -/
theorem test_crc_of_the_nine_digits : crc16 [0x31#8, 0x32#8, 0x33#8, 0x34#8, 0x35#8, 0x36#8, 0x37#8, 0x38#8, 0x39#8] = 0x29B1#16 := by
  decide +kernel

/-- R26: the table of worked vapour pressures. -/
theorem test_vapour_worked_table :
    [-300, -85, -5, 62, 85, 250, 500].map vapour = [51, 334, 594, 993, 1135, 3292, 12350] := by
  decide +kernel

/-- The holder of the worked case of 2.3: lifts of 1,100 and 1,250 square metres and 8,000 mm. -/
def workedHolder : HolderSettings := { factoryHolder with area := #v[1100, 1250, 1000, 1000] }

/-- 2.3: heights 11,500, 8,001 and 8,000 mm. -/
theorem test_volume_worked_case :
    [11500, 8001, 8000].map workedHolder.volume = [13175000, 8801250, 8800000] := by
  decide +kernel

/-- 2.3: the stock at those heights at 100,800 Pa and 8.5 degrees. -/
theorem test_stock_worked_case :
    [11500, 8001, 8000].map (fun h => workedHolder.stockAt h 85 100800) = [13491, 9012, 8967] := by
  decide +kernel

/-- R25: the floating lifts and pressures of the factory holder. -/
theorem test_floating_table :
    [0, 1, 8000, 8001, 16000, 16001, 24000].map (fun h => (factoryHolder.floatingAt h, factoryHolder.pressureAt (factoryHolder.floatingAt h))) =
      [(0, 0), (1, 1250), (1, 1250), (2, 1750), (2, 1750), (3, 2150), (3, 2150)] := by
  decide +kernel

/-- 2.6: 13,491 scm at 17,600 and a rise of 529 at 18,400. -/
theorem test_mixing_worked_case : mixedCv 13491 (some 17600) 529 18400 = 17630 := by decide +kernel

/-- R57: last issued 9,998 with 9,999 and 1 held gives 2. -/
theorem test_number_wraps_past_held : freeNumber [9999, 1] 16 9998 = 2 := by decide +kernel

/-- R146: a register that has wrapped. -/
theorem test_increment_wraps : increment 999420 1310 = 1890 := by decide +kernel

/-- R185: a cold start of the state right after reset leaves it as it is. -/
theorem test_reset_is_a_cold_start : State.reset.coldStart = State.reset := by decide +kernel

/-- R42: the fixed indexes. -/
theorem test_valve_indexes :
    itemNo (inletOf 3) = 4 ∧ itemNo (outletOf 0 0) = 5 ∧ itemNo (outletOf 0 3) = 8 ∧ itemNo (outletOf 1 0) = 9 ∧
      itemNo (outletOf 3 3) = 20 := by
  decide

/-- 11.3: the body of an OPEN of a FILL on H2 to 20,000 scm with a limit of 90 minutes. -/
theorem test_open_body_reads :
    readRequest [5#8, 0#8, 2#8, 0#8, 0x4E#8, 0x20#8, 0#8, 90#8] = some (.openOrder (.fill 2 20000 (some 90))) := by
  decide +kernel

/-- 11.3: the body of an AMEND of H1's gauge height to 11,500 mm. -/
theorem test_amend_body_reads :
    readRequest [4#8, 1#8, 0#8, 1#8, 22#8, 0x2C#8, 0xEC#8] = some (.amend 1 1 [(22, 11500)] none) := by
  decide +kernel

/-- R193: a YARD answer with one "no sensor". -/
theorem test_yard_answer_reads :
    judgeAnswer 1 .yard [1#8, 1#8, 0x01#8, 0x8B#8, 0xCD#8, 0#8, 150#8, 0x7F#8, 0xFF#8, 0xFF#8, 0xF6#8, 0#8, 0#8] =
      some (.yard 101325 #v[some 150, none, some (-10), some 0]) := by
  decide +kernel

/-! ## Well-formedness -/

theorem test_refuses_wide_kind : (Instr.read 256 1).wellFormed = false := by decide
theorem test_refuses_wide_key : (Instr.read 1 65536).wellFormed = false := by decide
theorem test_refuses_undefined_field : (Instr.amend 1 1 [(33, 0)]).wellFormed = false := by decide
theorem test_refuses_wide_value : (Instr.amend 1 1 [(1, 256)]).wellFormed = false := by decide
theorem test_refuses_negative_unsigned : (Instr.amend 1 1 [(22, -1)]).wellFormed = false := by decide
theorem test_refuses_wide_signed : (Instr.amend 4 1 [(23, 32768)]).wellFormed = false := by decide
theorem test_refuses_last_answer_field : (Instr.amend 6 1 [(7, 0)]).wellFormed = false := by decide
theorem test_refuses_long_amend : (Instr.amend 1 1 (List.replicate 66 (22, 0))).wellFormed = false := by decide +kernel
theorem test_refuses_zero_limit : (Instr.openOrder (.fill 1 20000 (some 0))).wellFormed = false := by decide
theorem test_refuses_wide_target : (Instr.openOrder (.fill 1 16777216 none)).wellFormed = false := by decide
theorem test_refuses_wide_governor : (Instr.openOrder (.send 1 256)).wellFormed = false := by decide
theorem test_refuses_wide_number : (Instr.cancel 65536).wellFormed = false := by decide
theorem test_refuses_wide_retire : (Instr.retireOrder 65536).wellFormed = false ∧ (Instr.retireStation 65536).wellFormed = false := by decide
theorem test_refuses_zero_increment : (Instr.enrol ⟨1, 2, 0, 0, some 0⟩).wellFormed = false := by decide
theorem test_refuses_wide_address : (Instr.enrol ⟨256, 2, 0, 0, none⟩).wellFormed = false := by decide
theorem test_refuses_wide_item : (Instr.acknowledge ⟨1, some (1, 65536)⟩).wellFormed = false := by decide
theorem test_refuses_empty_frame : (Instr.controlFrameReceived []).wellFormed = false := by decide
theorem test_refuses_empty_answer : (Instr.answerReceived []).wellFormed = false := by decide
theorem test_refuses_number_zero : (Instr.timeLimitExpiry 0).wellFormed = false := by decide

/-! ## The queue -/

theorem test_no_word_spells_a_command : decodeTableWord 8 0 = none ∧ State.reset.withFetchWord 8 0 = State.reset := by
  decide +kernel

theorem test_step_takes_the_front_command : step { State.reset with pending := [.listOrders] } = exec .listOrders State.reset := rfl

/-! ## States for the witnesses -/

/-- The factory settings with every outlet fitted and every governor's standby list H2, H3. -/
def fittedSettings : Settings :=
  { factorySettings with
    valves := Vector.replicate 20 (⟨true, 120⟩ : ValveSettings)
    governors := Vector.replicate 4 { factoryGovernor with standby := [1, 2] } }

/-- A holder at 12,000 mm, GOOD. -/
def goodHolder : Holder :=
  { coldHolder ⟨false, false⟩ with
    height := 12000
    status := .good
    stock := some (factoryHolder.stockAt 12000 150 101325)
    floating := 2
    pressure := 1750
    meanCv := some 17500 }

/-- Alerts taken up by a state from none. -/
def taken (s : State) : State := (s.setAlerts ⟨[], [], [], false⟩).settle

/-- The yard of reset with every outlet fitted, every gauge GOOD at 12,000 mm and the trip counted CLOSED. -/
def yard : State :=
  taken
    { State.reset with
      settings := fittedSettings
      holders := Vector.replicate 4 goodHolder
      contacts := { State.reset.contacts with trip := ⟨.closed, some .closed, none⟩ } }

/-- The yard with a valve in a state, its drive and travel as the state has them. -/
def withValve (v : ValveId) (x : ValveState) (s : State) : State :=
  s.setValve v ⟨x, x.drive, if x = .opening ∨ x = .closing then some ⟨120, 0⟩ else none⟩

/-- The yard with a contact counted at one level and a change to another pending. -/
def withChange (c : ContactId) (l : Level) (s : State) : State := s.setContact c ⟨l, none, some ⟨l, 0⟩⟩

/-- The yard with a contact counted at a level. -/
def counted (c : ContactId) (l : Level) (s : State) : State := s.setContact c ⟨l, some l, none⟩

/-- A FILL of H1 to 20,000 scm with a limit of 90 minutes. -/
def fillOrder (x : OrderState) (timer : Option Nat) : Order := ⟨7, .fill 20000 (some 90), 0, x, 0, some 13000, none, timer⟩

/-- A SEND of H1 to G1. -/
def sendOrder (x : OrderState) : Order := ⟨8, .send 0, 0, x, 0, some 13000, none, none⟩

/-- The yard with one order in the book. -/
def withOrder (o : Order) (s : State) : State := { s with book := ⟨[o], 8⟩ }

/-- The yard with a station enrolled at address 5 and its call waiting. -/
def waiting (k : StationKind) (s : State) : State :=
  s.setLine { s.line with
    roster := [⟨⟨5, k, 50000⟩, .unheard, 2, none⟩]
    activity := .waiting ⟨5, k, some 1200, false, 150⟩ 0
    position := 1 }

/-- The yard with the control port listening. -/
def listening (s : State) : State := s.setPort { s.port with receiver := .listening }

theorem yard_up : yard.power = .up := by decide +kernel

theorem bookSound_one (o : Order) (s : State) (h : 1 ≤ o.number ∧ o.number ≤ 9999) (k : o.stateSuits = true) :
    (withOrder o s).BookSound :=
  ⟨by simp [withOrder], by simp [withOrder], by simpa [withOrder] using h, by simp [withOrder], by simpa [withOrder] using k⟩

theorem yard_bookSound : yard.BookSound :=
  ⟨by decide +kernel, by decide +kernel, by decide +kernel, by decide +kernel, by decide +kernel⟩

theorem factoryHolder_sound : factoryHolder.Sound :=
  ⟨by decide, by decide, by decide, by decide, by decide +kernel, by decide, by decide⟩

theorem fittedSettings_sound : fittedSettings.Sound where
  holders := fun h => by
    have : fittedSettings.holders[h] = factoryHolder := by revert h; decide +kernel
    rw [this]; exact factoryHolder_sound
  governors := fun g =>
    ⟨by revert g; decide +kernel, by revert g; decide +kernel⟩
  served := by decide +kernel
  cvs := by decide +kernel
  inlets := by decide +kernel

theorem configurationsSound_of (s : State) (h : s.configurations = [⟨fittedSettings, []⟩]) : s.ConfigurationsSound := by
  intro c hc
  rw [h, List.mem_singleton] at hc
  rw [hc]; exact fittedSettings_sound

theorem yard_configurationsSound : yard.ConfigurationsSound := configurationsSound_of _ (by decide +kernel)

theorem alertsSound_of (s : State)
    (h : (s.alerts.list.map (·.cause)).Nodup ∧ (∀ p ∈ s.alerts.list, s.enabled p.cause.kind = true) ∧
      (∀ p ∈ s.alerts.list, p.cause.kind.isEvent = false → p.cause ∈ s.alerts.holds) ∧
      (∀ p ∈ s.alerts.list, p.cause.kind.isEvent = true → (1 ≤ p.count ∧ p.count ≤ 255 ∧ p.acknowledged = false)) ∧
      (s.alerts.holds.Nodup ∧ ∀ c ∈ s.alerts.holds, c.kind.isEvent = false) ∧ s.alerts.fresh = [] ∧
      s.alerts.holds = s.conditionsHolding ∧
      (∀ c ∈ s.alerts.holds, s.enabled c.kind = true → ∃ p ∈ s.alerts.list, p.cause = c) ∧
      s.alerts.attention = s.attentionDue) : s.AlertsSound :=
  ⟨h.1, h.2.1, h.2.2.1, h.2.2.2.1, h.2.2.2.2.1, h.2.2.2.2.2.1, h.2.2.2.2.2.2.1, h.2.2.2.2.2.2.2.1, h.2.2.2.2.2.2.2.2⟩

theorem yard_alertsSound : yard.AlertsSound := alertsSound_of _ (by decide +kernel)

theorem yard_rostersSound : yard.RostersSound := by
  intro c hc
  have : c.roster = [] := by
    have hs : yard.configurations = [⟨fittedSettings, []⟩] := by decide +kernel
    rw [hs] at hc; simp at hc; rw [hc]
  rw [this]; exact ⟨by simp, by simp, by simp, by simp⟩

/-! ## Witnesses: for each statement with hypotheses, a state and operands that meet them, and what they come to -/

theorem witness_emptyQueue :
    State.reset.pending = [] ∧ State.reset.dueCommand = none ∧
      ({ State.reset with now := 50 } : State).dueCommand = some (.debounceExpiry (.mark 0)) := by
  decide +kernel

/-- A state with a timer of each kind due at once, apart from the contacts'. -/
def allDue : State :=
  { withValve 4 .opening (waiting .yard (withOrder (fillOrder .filling (some 0)) yard)) with
    contacts := ⟨Vector.replicate 4 ⟨.opened, none, none⟩, Vector.replicate 4 ⟨.opened, none, none⟩,
      Vector.replicate 20 ⟨.opened, none, none⟩, Vector.replicate 20 ⟨.opened, none, none⟩, ⟨.closed, some .closed, none⟩⟩
    now := 5400000 }

theorem witness_dueTimers :
    allDue.pending = [] ∧ allDue.power = .up ∧ allDue.dueContact = none ∧ allDue.dueTravel = some (.travelTimerExpiry 4) ∧
      allDue.dueLimit = some (.timeLimitExpiry 7) ∧ ({ allDue with now := 5399999 } : State).dueLimit = none ∧
      allDue.dueAdjust = some (.adjustTimerExpiry 0) ∧ allDue.dueClock = some .clockAdvance ∧
      allDue.dueCycle = some .cycleTimerExpiry ∧ allDue.dueLine = some .answerTimeout ∧
      ({ waiting .yard yard with now := 150 } : State).dueLine = some .answerTimeout ∧
      ({ waiting .yard yard with now := 149 } : State).dueLine = none ∧
      ({ yard with now := 49 } : State).dueSilence = none ∧ ({ yard with now := 50 } : State).dueSilence = some .frameGapSilence ∧
      ({ yard with now := 59999 } : State).dueClock = none ∧ ({ yard with now := 60000 } : State).dueClock = some .clockAdvance ∧
      ({ allDue with power := .down } : State).dueCommand = some .clockAdvance ∧
      (({ yard with now := 49 } : State).setContact .trip ⟨.opened, some .closed, some ⟨.opened, 0⟩⟩).dueCommand ≠
        some (.debounceExpiry .trip) ∧
      ({ yard.setLine { yard.line with activity := .gap 10 } with now := 15 } : State).dueLine = some .gapEnd ∧
      ({ yard.setLine { yard.line with activity := .gap 10 } with now := 14 } : State).dueLine = none := by
  decide +kernel

theorem witness_commandsKeep :
    (∀ p m, Instr.summary ≠ .powerOn p m) ∧ (∀ l, Instr.summary ≠ .contactRawChange .strap l) ∧
      (∀ l, Instr.summary ≠ .contactRawChange (.contact .trip) l) ∧
      (∀ p, Instr.summary ≠ .encoderStep 0 p) := by
  simp

theorem witness_commandsChangeOnlyTheirParts :
    exec .listOrders yard = .next (after .listOrders yard) ∧ commandMayChange .listOrders .book = false :=
  ⟨rfl, by decide⟩

theorem witness_yardEvents :
    exec (.encoderStep 0 ⟨true, false⟩) yard = .next (after (.encoderStep 0 ⟨true, false⟩) yard) ∧ (1 : HolderId) ≠ 0 ∧
      exec (.debounceExpiry .trip) yard = .next (after (.debounceExpiry .trip) yard) ∧ ContactId.mark 0 ≠ .trip ∧
      exec (.travelTimerExpiry 4) yard = .next (after (.travelTimerExpiry 4) yard) ∧ (4 : ValveId) = outletOf 0 0 ∧
      exec (.travelTimerExpiry 0) yard = .next (after (.travelTimerExpiry 0) yard) ∧ (0 : ValveId) = inletOf 0 ∧
      exec (.adjustTimerExpiry 0) yard = .next (after (.adjustTimerExpiry 0) yard) :=
  ⟨rfl, by decide, rfl, by decide, rfl, by decide, rfl, by decide, rfl⟩

theorem witness_moduleDown :
    ({ yard with power := .down } : State).power = .down ∧ (∀ h p, Instr.summary ≠ .encoderStep h p) ∧
      (∀ x l, Instr.summary ≠ .contactRawChange x l) ∧ Instr.summary ≠ .clockAdvance ∧
      (∀ p m, Instr.summary ≠ .powerOn p m) ∧ yard.power = .up := by
  refine ⟨rfl, by simp, by simp, by simp, by simp, yard_up⟩

theorem witness_requestBodies :
    (Instr.amend 4 4 [(23, -2000), (77, 15)]).wellFormed = true ∧
      (Instr.amend 4 4 [(23, -2000), (77, 15)]).request = some (.amend 4 4 [(23, -2000), (77, 15)] none) ∧
      readRequest (HostRequest.amend 4 4 [(23, -2000), (77, 15)] none).body = some (.amend 4 4 [(23, -2000), (77, 15)] none) := by
  decide +kernel

theorem witness_goodFrame :
    (Instr.cancel 65535).wellFormed = true ∧ (Instr.cancel 65535).request = some (.cancel 65535) ∧
      (listening yard).power = .up ∧ (listening yard).port.receiver = .listening ∧
      (after (.controlFrameReceived (frameOf (HostRequest.cancel 65535).body)) (listening yard)).port.reply = some [6#8, 1#8] := by
  decide +kernel

theorem witness_badFrames :
    (listening yard).power = .up ∧ (listening yard).port.receiver = .listening ∧
      ([0#8, 0#8] : List Byte) ≠ checkBytes [10#8] ∧ lengthSuits (numberAt [10#8, 0#8] 0 1) 2 = false ∧
      (after (.controlFrameReceived [0xD5#8, 1#8, 10#8, 0#8, 0#8]) (listening yard)).port.receiver = .settling ∧
      (after (.controlFrameReceived (frameOf (13#8 :: List.replicate 5 0#8))) (listening yard)).port.reply =
        some [13#8, 2#8] := by
  decide +kernel

/-- A port that assembles a frame. -/
def assembling (frame : List Byte) (s : State) : State := s.setPort { s.port with receiver := .assembling, frame := frame }

theorem witness_controlLineBytes :
    (after (.controlLineByte 0xD4#8) (listening yard)).port.frame = [] ∧
      (after (.controlLineByte 0xD5#8) (listening yard)).port.frame = [0xD5#8] ∧
      (after (.controlLineByte 0#8) (assembling [0xD5#8] yard)).port.receiver = .settling ∧
      (after (.controlLineByte 201#8) (assembling [0xD5#8] yard)).port.receiver = .settling ∧
      (after (.controlLineByte 1#8) (assembling [0xD5#8] yard)).port.frame = [0xD5#8, 1#8] ∧
      (after (.controlLineByte 200#8) (assembling [0xD5#8] yard)).port.frame = [0xD5#8, 200#8] ∧
      (after (.controlLineByte 10#8) (assembling [0xD5#8, 1#8] yard)).port.frame = [0xD5#8, 1#8, 10#8] ∧
      yard.port.receiver = .settling := by
  decide +kernel

/-- A port that has a reply under way. -/
def replied (k : Option StartKind) (s : State) : State :=
  s.setPort { s.port with receiver := .replying, reply := some [11#8, 0#8], restart := k }

theorem witness_silenceAndReply :
    (after .frameGapSilence yard).port.receiver = .listening ∧ (replied none yard).port.receiver = .replying ∧
      (replied none yard).port.restart = none ∧ (after .replySent (replied none yard)).port.receiver = .settling ∧
      (replied (some .warm) yard).port.restart = some .warm ∧
      (after .replySent (replied (some .cold) yard)).holder 0 = coldHolder ⟨false, false⟩ ∧
      (after .replySent (after (.contactRawChange .strap .closed) (replied (some .warm) yard))).lineSpeed = 19200 ∧
      (after .replySent (after (.contactRawChange .strap .closed) (replied none yard))).lineSpeed = 9600 := by
  decide +kernel

theorem witness_reads :
    yard.power = .up ∧ (withOrder (sendOrder .queued) yard).order 8 = some (sendOrder .queued) ∧
      (waiting .yard yard).station 5 = some ⟨⟨5, .yard, 50000⟩, .unheard, 2, none⟩ ∧ yard.order 1 = none ∧
      yard.station 1 = none := by
  decide +kernel

theorem witness_summary :
    yard.settings.levels[(0 : GroupId)] ≠ 0 ∧ (∃ p ∈ yard.alerts.list, p.cause.kind.group = 0 ∧ p.acknowledged = false) ∧
      (∀ g : GroupId, (∃ p ∈ yard.alerts.list, p.cause.kind.group = g) →
        yard.settings.levels[g] < yard.settings.levels[(0 : GroupId)] ∨
          (yard.settings.levels[g] = yard.settings.levels[(0 : GroupId)] ∧ (0 : GroupId) ≤ g)) := by
  decide +kernel

theorem witness_summary_none : ∀ g : GroupId, ¬ ∃ p ∈ (yard.setAlerts ⟨[], [], [], false⟩).alerts.list, p.cause.kind.group = g := by
  decide +kernel

/-- A book of sixteen ended orders. -/
def fullBook : OrderBook := ⟨(List.range 16).map fun i => { sendOrder (.ended .cancelled) with number := i + 1 }, 16⟩

theorem witness_openChecks :
    (after (.openOrder (.send 1 1)) { yard with book := fullBook }).port.reply = some [5#8, 5#8] ∧
      (after (.openOrder (.fill 5 1 none)) yard).port.reply = some [5#8, 1#8] ∧
      (after (.openOrder (.fill 4 1000000 none)) yard).port.reply = some [5#8, 3#8] ∧
      (after (.openOrder (.fill 4 999999 (some 1441))) yard).port.reply = some [5#8, 3#8] ∧
      (after (.openOrder (.fill 4 999999 (some 1440))) yard).port.reply = some [5#8, 0#8, 0#8, 1#8, 1#8] ∧
      (after (.openOrder (.fill 1 1 none)) State.reset).port.reply = some [5#8, 11#8] ∧
      (after (.openOrder (.send 1 1)) State.reset).port.reply = some [5#8, 7#8] ∧
      (after (.openOrder (.send 1 1)) (yard.setHolder 0 { goodHolder with service := .out })).port.reply = some [5#8, 8#8] ∧
      (after (.openOrder (.send 1 1)) (yard.setGovernor 0 { yard.governor 0 with lead := some ⟨0, .start⟩ })).port.reply =
        some [5#8, 9#8] := by
  decide +kernel

theorem witness_acceptedOpen :
    yard.power = .up ∧ yard.BookSound ∧ yard.book.orders.length < 16 ∧
      yard.openCheck (.fill 1 20000 (some 90)) = .ok (0, .fill 20000 (some 90)) :=
  ⟨yard_up, yard_bookSound, by decide +kernel, rfl⟩

theorem witness_fillStart :
    yard.power = .up ∧ yard.BookSound ∧ yard.book.orders.length < 16 ∧ (yard.holder 0).service = .inUse ∧
      yard.trip = .inactive ∧ (yard.valveCfg (inletOf 0)).fitted = true ∧
      (∀ o ∈ yard.book.orders, o.isFill = true → o.holder = 0 → o.isEnded = true) ∧
      ((after (.openOrder (.fill 1 20000 (some 1))) yard).valve (inletOf 0)).state = .opening ∧
      ((after (.openOrder (.fill 1 1 (some 1440))) yard).order 1).map (·.state) = some (.ended .target) := by
  refine ⟨yard_up, yard_bookSound, ?_⟩
  decide +kernel

theorem witness_sendStart :
    yard.power = .up ∧ yard.BookSound ∧ yard.book.orders.length < 16 ∧ (yard.valveCfg (outletOf 0 0)).fitted = true ∧
      (yard.holder 0).service = .inUse ∧ yard.leads 0 0 = false ∧ (yard.governor 0).slot = none ∧
      (yard.governor 0).deferred = noTriggers ∧
      (∀ o ∈ yard.book.orders, o.isSendFor 0 = true → o.state ≠ .queued ∧ o.state ≠ .changing) ∧
      ((after (.openOrder (.send 1 1)) yard).governor 0).slot = some ⟨0, .order 1⟩ ∧
      ((after (.openOrder (.send 1 1)) (withValve (outletOf 0 0) .opened yard)).governor 0).lead = some ⟨0, .order 1⟩ := by
  refine ⟨yard_up, yard_bookSound, ?_⟩
  decide +kernel

/-- The yard with the FILL of H1 in FILLING behind an OPEN inlet. -/
def filling : State := withValve (inletOf 0) .opened (withOrder (fillOrder .filling (some 0)) yard)

/-- The yard with the FILL of H1 in OPENING, its inlet's open switch about to count. -/
def openingInlet : State :=
  withChange (.openSwitch (inletOf 0)) .closed
    (counted (.shutSwitch (inletOf 0)) .opened (withValve (inletOf 0) .opening (withOrder (fillOrder .opening none) yard)))

/-- The yard with the SEND of H1 to G1 in CHANGING, H2 leading G1, the outlet's open switch about to count. -/
def changing : State :=
  let s := withValve (outletOf 1 0) .opened (withValve (outletOf 0 0) .opening (withOrder (sendOrder .changing) yard))
  taken (withChange (.openSwitch (outletOf 0 0)) .closed (counted (.shutSwitch (outletOf 0 0)) .opened
    (s.setGovernor 0 { s.governor 0 with lead := some ⟨1, .start⟩, slot := some ⟨0, .order 8⟩, status := .fed })))

theorem filling_bookSound : filling.BookSound :=
  ⟨by decide +kernel, by decide +kernel, by decide +kernel, by decide +kernel, by decide +kernel⟩

theorem openingInlet_bookSound : openingInlet.BookSound :=
  ⟨by decide +kernel, by decide +kernel, by decide +kernel, by decide +kernel, by decide +kernel⟩

theorem changing_bookSound : changing.BookSound :=
  ⟨by decide +kernel, by decide +kernel, by decide +kernel, by decide +kernel, by decide +kernel⟩

theorem witness_cancel :
    filling.power = .up ∧ filling.BookSound ∧ filling.order 7 = some (fillOrder .filling (some 0)) ∧
      (fillOrder .filling (some 0)).isEnded = false ∧ (fillOrder .filling (some 0)).isRunningFill = true ∧
      changing.order 8 = some (sendOrder .changing) ∧ (changing.governor 0).deferred = noTriggers ∧
      ((after (.cancel 7) filling).valve (inletOf 0)).state = .closing ∧ ((after (.cancel 8) changing).governor 0).slot = none ∧
      (after (.cancel 8) (withOrder (sendOrder .leading) yard)).port.reply = some [6#8, 10#8] ∧
      (after (.cancel 8) (withOrder (sendOrder (.ended .target)) yard)).port.reply = some [6#8, 9#8] ∧
      filling.order 1 = none := by
  refine ⟨by decide +kernel, filling_bookSound, ?_⟩
  decide +kernel

/-- The SEND in CHANGING of the yard with another for G1 QUEUED behind it. -/
def changingBefore (h : HolderId) : State :=
  { changing with book := ⟨[sendOrder .changing, { sendOrder .queued with number := 9, holder := h, startStock := none }], 9⟩ }

theorem changingBefore_bookSound : (changingBefore 2).BookSound :=
  ⟨by decide +kernel, by decide +kernel, by decide +kernel, by decide +kernel, by decide +kernel⟩

theorem witness_cancel_startsTheNextSend :
    (changingBefore 2).power = .up ∧ (changingBefore 2).BookSound ∧
      (changingBefore 2).book.orders = [sendOrder .changing] ++
        { sendOrder .queued with number := 9, holder := 2, startStock := none } :: [] ∧
      ((changingBefore 2).valveCfg (outletOf 2 0)).fitted = true ∧ (2 : HolderId) ≠ (sendOrder .changing).holder ∧
      ((after (.cancel 8) (changingBefore 2)).order 9).map (·.state) = some .changing ∧
      ((after (.cancel 8) (changingBefore 2)).governor 0).slot = some ⟨2, .order 9⟩ ∧
      ((after (.cancel 8) ((changingBefore 2).setHolder 2 { goodHolder with limit := .lowStop })).order 9).map (·.state) =
        some (.ended .notReady) := by
  refine ⟨by decide +kernel, changingBefore_bookSound, ?_⟩
  decide +kernel

theorem witness_retireOrder :
    (withOrder (sendOrder (.ended .cancelled)) yard).power = .up ∧ (withOrder (sendOrder (.ended .cancelled)) yard).BookSound ∧
      (withOrder (sendOrder (.ended .cancelled)) yard).AlertsSound ∧
      (withOrder (sendOrder (.ended .cancelled)) yard).order 8 = some (sendOrder (.ended .cancelled)) ∧
      (after (.retireOrder 8) (withOrder (sendOrder (.ended .cancelled)) yard)).book.orders = [] ∧
      (after (.retireOrder 8) changing).port.reply = some [7#8, 12#8] :=
  ⟨by decide +kernel, bookSound_one _ _ (by decide) (by decide), alertsSound_of _ (by decide +kernel), by decide +kernel,
    by decide +kernel, by decide +kernel⟩

theorem witness_timeLimit :
    filling.power = .up ∧ filling.BookSound ∧ filling.order 7 = some (fillOrder .filling (some 0)) ∧
      (fillOrder .filling (some 0)).limitTimer.isSome = true ∧
      ((after (.timeLimitExpiry 7) filling).order 7).map (·.state) = some (.ended .timedOut) :=
  ⟨by decide +kernel, filling_bookSound, by decide +kernel, by decide, by decide +kernel⟩

/-- The FILL in FILLING with another on H1 QUEUED behind it. -/
def fillingBefore (target : Nat) : State :=
  { filling with
    book := ⟨[fillOrder .filling (some 0), ⟨9, .fill target (some 5), 0, .queued, 0, none, none, none⟩], 9⟩ }

theorem fillingBefore_bookSound : (fillingBefore 21000).BookSound :=
  ⟨by decide +kernel, by decide +kernel, by decide +kernel, by decide +kernel, by decide +kernel⟩

theorem witness_timeLimit_startsTheNextFill :
    (fillingBefore 21000).power = .up ∧ (fillingBefore 21000).BookSound ∧
      (fillingBefore 21000).order 7 = some (fillOrder .filling (some 0)) ∧
      (fillingBefore 21000).book.orders = [fillOrder .filling (some 0)] ++
        ⟨9, .fill 21000 (some 5), 0, .queued, 0, none, none, none⟩ :: [] ∧
      ((after (.timeLimitExpiry 7) (fillingBefore 21000)).order 9).map (·.state) = some .opening ∧
      ((after (.timeLimitExpiry 7) (counted (.openSwitch (inletOf 0)) .closed (counted (.shutSwitch (inletOf 0)) .opened
        (fillingBefore 21000)))).order 9).map (·.state) = some .filling ∧
      ((after (.timeLimitExpiry 7) (fillingBefore 1)).order 9).map (·.state) = some (.ended .target) ∧
      ((after (.timeLimitExpiry 7) ((fillingBefore 21000).setHolder 0 { goodHolder with stock := none })).order 9).map (·.state) =
        some (.ended .gauge) ∧
      ((after (.timeLimitExpiry 7) ((fillingBefore 21000).setHolder 0 { goodHolder with service := .out })).order 9).map (·.state) =
        some (.ended .notReady) := by
  refine ⟨by decide +kernel, fillingBefore_bookSound, ?_⟩
  decide +kernel

theorem witness_trip :
    (withChange .trip .opened filling).power = .up ∧ (∀ h : HolderId, ((withChange .trip .opened filling).valveCfg (inletOf h)).fitted = true) ∧
      ((withChange .trip .opened filling).contact .trip).change = some ⟨.opened, 0⟩ ∧
      ((after (.debounceExpiry .trip) (withChange .trip .opened filling)).order 7).map (·.state) = some (.ended .tripped) ∧
      ((withChange .trip .closed filling).contact .trip).change = some ⟨.closed, 0⟩ ∧
      (after (.debounceExpiry .trip) (withChange .trip .opened filling)).valve 0 = ⟨.closing, .toShut, some ⟨120, 0⟩⟩ ∧
      (after (.debounceExpiry .trip) (withChange .trip .opened filling)).valve 1 = ⟨.shut, .off, none⟩ ∧
      (after (.debounceExpiry .trip) (withChange .trip .opened (withValve 1 (.fault .travel) filling))).valve 1 =
        ⟨.closing, .toShut, some ⟨120, 0⟩⟩ ∧
      (after (.debounceExpiry .trip) (withChange .trip .opened (counted (.shutSwitch 1) .closed (counted (.openSwitch 1) .opened
        (withValve 1 (.fault .travel) filling))))).valve 1 = ⟨.shut, .off, none⟩ := by
  decide +kernel

/-- FILLING with the holder one step below HIGH_STOP. -/
def belowHighStop : State :=
  filling.setHolder 0 { goodHolder with height := 22999, stock := some (factoryHolder.stockAt 22999 150 101325) }

/-- FILLING with the target one step away. -/
def belowTarget : State :=
  withOrder { fillOrder .filling (some 0) with kind := .fill (factoryHolder.stockAt 12001 150 101325) none } filling

/-- With no SEND in the book and every slot free, every governor's SEND orders are sound. -/
theorem sendsSound_of (s : State) (hk : ∀ o ∈ s.book.orders, o.isFill = true) (hs : ∀ g : GovernorId, (s.governor g).slot = none)
    (g : GovernorId) : s.SendsSound g := by
  have hn : ∀ o ∈ s.book.orders, o.isSendFor g ≠ true := fun o ho => by
    have h := hk o ho
    unfold Order.isFill at h
    unfold Order.isSendFor
    split at h <;> simp_all
  exact ⟨fun o ho h => absurd h (hn o ho), fun h n hg => (by rw [hs g] at hg; cases hg), fun o ho h => absurd h (hn o ho),
    fun o ho h => absurd h (hn o ho)⟩

theorem witness_stockChange :
    exec (.encoderStep 0 ⟨true, false⟩) belowHighStop = .next (after (.encoderStep 0 ⟨true, false⟩) belowHighStop) ∧
      belowHighStop.power = .up ∧ belowHighStop.BookSound ∧ belowHighStop.FillsWait ∧ (∀ g, belowHighStop.SendsSound g) ∧
      (belowHighStop.valveCfg (inletOf 0)).fitted = true ∧ fillOrder .filling (some 0) ∈ belowHighStop.book.orders ∧
      ((after (.encoderStep 0 ⟨true, false⟩) belowHighStop).holder 0).stock ≠ none ∧
      ((after (.encoderStep 0 ⟨true, false⟩) belowHighStop).holder 0).stock ≠ (belowHighStop.holder 0).stock ∧
      ((after (.encoderStep 0 ⟨true, false⟩) belowHighStop).holder 0).limit = .highStop ∧
      ((after (.encoderStep 0 ⟨true, false⟩) belowHighStop).order 7).map (·.state) = some (.ended .highStop) ∧
      ((after (.encoderStep 0 ⟨true, false⟩) belowTarget).order 7).map (·.state) = some (.ended .target) ∧
      ((after (.encoderStep 0 ⟨true, false⟩) filling).order 7).map (·.state) = some .filling := by
  refine ⟨rfl, by decide +kernel, ⟨?_, ?_, ?_, ?_, ?_⟩, ?_, sendsSound_of _ (by decide +kernel) (by decide +kernel), ?_⟩
  · decide +kernel
  · decide +kernel
  · decide +kernel
  · decide +kernel
  · decide +kernel
  · unfold State.FillsWait; decide +kernel
  · decide +kernel

/-- What a command leaves of the FILL of the book and of H1's inlet. -/
def fillAfter (c : Instr) (s : State) : Option OrderState × ValveState :=
  (((after c s).order 7).map (·.state), ((after c s).valve (inletOf 0)).state)

/-- FILLING with the inlet's open switch, counted MADE, about to count BROKEN. -/
def inletSlips : State := withChange (.openSwitch (inletOf 0)) .opened filling

theorem witness_stockChange_byOtherEvents :
    fillAfter (.debounceExpiry (.mark 0)) (withChange (.mark 0) .closed filling) = (some (.ended .gauge), .closing) ∧
      fillAfter (.debounceExpiry (.landed 0)) (withChange (.landed 0) .closed filling) = (some .filling, .opened) ∧
      fillAfter (.amend 1 1 [(6, 7900)]) filling = (some (.ended .gauge), .closing) ∧
      fillAfter (.amend 1 1 [(22, 23000)]) filling = (some (.ended .highStop), .closing) ∧
      fillAfter (.amend 1 1 [(18, 12000), (17, 11999), (16, 5000)]) filling = (some (.ended .highStop), .closing) ∧
      fillAfter (.amend 1 1 [(2, 4000), (3, 4000)]) filling = (some (.ended .target), .closing) ∧
      ((after (.amend 1 1 [(18, 12000), (17, 11999), (16, 5000)]) filling).holder 0).stock = (filling.holder 0).stock ∧
      fillAfter (.answerReceived (frameOf [5#8, 1#8, 0x01#8, 0xA5#8, 0xE0#8, 0#8, 150#8, 0#8, 0#8, 0#8, 0#8, 0#8, 0#8]))
        (waiting .yard belowTarget) = (some (.ended .target), .closing) ∧
      (∀ g, (waiting .yard belowTarget).SendsSound g) := by
  refine ⟨by decide +kernel, by decide +kernel, by decide +kernel, by decide +kernel, by decide +kernel, by decide +kernel,
    by decide +kernel, by decide +kernel, sendsSound_of _ (by decide +kernel) (by decide +kernel)⟩

theorem witness_inletFault :
    inletSlips.power = .up ∧ (inletSlips.valve (inletOf 0)).state.isFault = false ∧
      fillAfter (.debounceExpiry (.openSwitch (inletOf 0))) inletSlips = (some (.ended .valveFault), .fault .unbidden) ∧
      fillAfter (.travelTimerExpiry (inletOf 0)) openingInlet = (some (.ended .valveFault), .fault .travel) := by
  decide +kernel

/-- H1 leads G1, one step above LOW_STOP. -/
def aboveLowStop : State :=
  let s := withValve (outletOf 0 0) .opened (yard.setHolder 0 { goodHolder with height := 1001, limit := .lowWarn })
  s.setGovernor 0 { s.governor 0 with lead := some ⟨0, .start⟩, status := .fed }

theorem witness_lowStop :
    exec (.encoderStep 0 ⟨false, true⟩) aboveLowStop = .next (after (.encoderStep 0 ⟨false, true⟩) aboveLowStop) ∧
      aboveLowStop.power = .up ∧ aboveLowStop.leads 0 0 = true ∧
      ((after (.encoderStep 0 ⟨false, true⟩) aboveLowStop).holder 0).limit = .lowStop ∧
      (aboveLowStop.holder 0).limit ≠ .lowStop ∧
      (after (.encoderStep 0 ⟨false, true⟩) aboveLowStop).leads 0 0 = false ∧
      ((after (.encoderStep 0 ⟨false, true⟩) aboveLowStop).governor 0).slot = some ⟨1, .automatic⟩ := by
  refine ⟨rfl, ?_⟩
  decide +kernel

theorem changing_sendsSound : changing.SendsSound 0 where
  changing := by decide +kernel
  slot := by
    intro h n hs
    have hk : (changing.governor 0).slot = some ⟨0, .order 8⟩ := by decide +kernel
    rw [hk] at hs
    simp only [Option.some.injEq, Changeover.mk.injEq, ChangeoverBy.order.injEq] at hs
    obtain ⟨rfl, rfl⟩ := hs
    decide +kernel
  leading := by decide +kernel
  fitted := by decide +kernel

/-- A state with its one SEND of H1 to G1 LEADING or CHANGING and H1 one step above LOW_STOP. -/
def nearLowStop (s : State) : State := s.setHolder 0 { goodHolder with height := 1001, limit := .lowWarn }

/-- H1 leads G1 by the SEND of the book and is one step above LOW_STOP. -/
def leadingLow : State :=
  let s := nearLowStop (withValve (outletOf 0 0) .opened (withOrder (sendOrder .leading) yard))
  s.setGovernor 0 { s.governor 0 with lead := some ⟨0, .order 8⟩, status := .fed }

theorem witness_lowStop_endsTheSends :
    leadingLow.power = .up ∧ leadingLow.BookSound ∧ leadingLow.SendsSound 0 ∧ (leadingLow.holder 0).limit ≠ .lowStop ∧
      ((after (.encoderStep 0 ⟨false, true⟩) leadingLow).holder 0).limit = .lowStop ∧
      ((after (.encoderStep 0 ⟨false, true⟩) leadingLow).order 8).map (·.state) = some (.ended .lowStop) ∧
      ((after (.encoderStep 0 ⟨false, true⟩) leadingLow).order 8).map (·.endStock) =
        some ((after (.encoderStep 0 ⟨false, true⟩) leadingLow).holder 0).stock ∧
      ((after (.encoderStep 0 ⟨false, true⟩) (nearLowStop changing)).order 8).map (·.state) = some (.ended .lowStop) ∧
      ((after (.encoderStep 0 ⟨false, true⟩) (nearLowStop changing)).governor 0).slot = none := by
  refine ⟨by decide +kernel, ⟨by decide +kernel, by decide +kernel, by decide +kernel, by decide +kernel, by decide +kernel⟩,
    ⟨?_, ?_, ?_, ?_⟩, by decide +kernel⟩
  · decide +kernel
  · intro h n hs
    have hk : (leadingLow.governor 0).slot = none := by decide +kernel
    rw [hk] at hs; cases hs
  · decide +kernel
  · decide +kernel

theorem witness_arrivalOfAnOutlet :
    changing.power = .up ∧ changing.BookSound ∧ changing.SendsSound 0 ∧ changing.AlertsSound ∧
      (changing.valveCfg (outletOf 0 0)).fitted = true ∧ (changing.valve (outletOf 0 0)).state = .opening ∧
      (changing.contact (.openSwitch (outletOf 0 0))).change = some ⟨.closed, 0⟩ ∧
      changing.shutSwitch (outletOf 0 0) = .broken ∧ (changing.governor 0).slot = some ⟨0, .order 8⟩ ∧
      (changing.governor 0).deferred = noTriggers ∧
      (∀ o ∈ changing.book.orders, o.isSendFor 0 = true → o.state ≠ .queued) ∧
      ((after (.debounceExpiry (.openSwitch (outletOf 0 0))) changing).governor 0).lead = some ⟨0, .order 8⟩ :=
  ⟨by decide +kernel, changing_bookSound, changing_sendsSound, alertsSound_of _ (by decide +kernel), by decide +kernel,
    by decide +kernel, by decide +kernel, by decide +kernel, by decide +kernel, by decide +kernel, by decide +kernel,
    by decide +kernel⟩

theorem witness_arrivalOfAnInlet :
    openingInlet.power = .up ∧ openingInlet.BookSound ∧ openingInlet.FillsWait ∧
      (openingInlet.valveCfg (inletOf 0)).fitted = true ∧ (openingInlet.valve (inletOf 0)).state = .opening ∧
      (openingInlet.contact (.openSwitch (inletOf 0))).change = some ⟨.closed, 0⟩ ∧
      openingInlet.shutSwitch (inletOf 0) = .broken ∧ fillOrder .opening none ∈ openingInlet.book.orders ∧
      (openingInlet.holder 0).stock.isSome = true ∧
      ((after (.debounceExpiry (.openSwitch (inletOf 0))) openingInlet).order 7).map (·.state) = some .filling := by
  refine ⟨by decide +kernel, openingInlet_bookSound, ?_, ?_⟩
  · unfold State.FillsWait; decide +kernel
  · decide +kernel

theorem witness_attempt :
    (yard.governorCfg 0).standby = [] ++ 1 :: [2] ∧ yard.passes 0 true 1 = true ∧
      ((yard.attempt 0 ⟨true, false, false⟩).governor 0).slot = some ⟨1, .automatic⟩ ∧
      ((State.reset.attempt 0 ⟨false, true, false⟩).governor 0).retry = true ∧ (State.reset.governorCfg 0).standby = [] := by
  decide +kernel

/-- G1 with changeovers OFF, or with a changeover to H4 in flight. -/
def changeoversOff : State :=
  yard.setSettings { yard.settings with
    governors := yard.settings.governors.set 0 { fittedSettings.governors[(0 : GovernorId)] with autoChangeover := false } }

def inFlight (d : Triggers) : State :=
  yard.setGovernor 0 { yard.governor 0 with slot := some ⟨3, .automatic⟩, deferred := d }

theorem witness_triggers :
    (changeoversOff.governorCfg 0).autoChangeover = false ∧ changeoversOff.trigger 0 removalTrigger = changeoversOff ∧
      ((inFlight noTriggers).trigger 0 ⟨true, false, true⟩).governor 0 = (inFlight ⟨true, false, true⟩).governor 0 ∧
      (yard.governor 0).slot = none ∧ ((yard.attempt 0 removalTrigger).governor 0).slot ≠ none ∧
      (State.reset.governorCfg 0).standby = [] ∧ (State.reset.governorCfg 0).autoChangeover = true := by
  decide +kernel

/-- G1 UNFED with triggers deferred and the slot free. -/
def waitingTriggers (d : Triggers) : State := yard.setGovernor 0 { yard.governor 0 with deferred := d }

theorem witness_deferredTriggers :
    ((waitingTriggers removalTrigger).governor 0).status = .unfed ∧
      (((waitingTriggers removalTrigger).takeDeferred 0).governor 0).slot = some ⟨1, .automatic⟩ ∧
      (waitingTriggers ⟨true, true, false⟩).takeDeferred 0 = yard ∧
      (∀ o ∈ (waitingTriggers removalTrigger).book.orders, o.isSendFor 0 = true → o.state ≠ .queued) ∧
      (((withOrder (sendOrder .queued) yard).sendRule 0).governor 0).slot = some ⟨0, .order 8⟩ := by
  decide +kernel

theorem witness_takingOut :
    yard.power = .up ∧ yard.ConfigurationsSound ∧ filling.BookSound ∧ (filling.holder 0).service = .inUse ∧
      (∀ g, filling.leads 0 g = false) ∧ (after (.amend 1 1 [(21, 1)]) filling).port.reply ≠ none ∧
      ((after (.amend 1 1 [(21, 1)]) filling).order 7).map (·.state) = some (.ended .takenOut) ∧
      aboveLowStop.leads 0 0 = true ∧ (after (.amend 1 1 [(21, 1)]) aboveLowStop).port.reply = some [4#8, 10#8, 21#8] := by
  refine ⟨yard_up, yard_configurationsSound, filling_bookSound, ?_⟩
  decide +kernel

/-- G1 asks RAISE. -/
def raising : State := yard.setGovernor 0 { yard.governor 0 with request := .raise }

theorem witness_adjust :
    raising.power = .up ∧ (raising.governor 0).request = .raise ∧ (raising.governor 0).retry = false ∧
      ((after (.adjustTimerExpiry 0) raising).governor 0).trim = 25 := by
  decide +kernel

/-- G1 asks RAISE under H1, short, its retry due; H2, at its desired setpoint, has its outlet's switches at OPEN, H3 is above. -/
def retrying : State :=
  let s := ((raising.setHolder 0 { goodHolder with pressure := 1300 }).setHolder 1 { goodHolder with pressure := 1350 })
  let t := counted (.shutSwitch 8) .opened (counted (.openSwitch 8) .closed s)
  let u := (t.setGovernor 0 { t.governor 0 with lead := some ⟨0, .start⟩ }).refresh 0
  u.setGovernor 0 { u.governor 0 with retry := true }

/-- A retry that completes at once changes the lead to H2, and the trim step behind it leaves H3 alone, though the ceiling
falls short (R93). -/
theorem witness_retryBeforeTheStep :
    retrying.retryDue 0 = true ∧ ((retrying.silentRetry 0).governor 0).lead = some ⟨1, .automatic⟩ ∧
      ((retrying.silentRetry 0).governor 0).short = false ∧
      (((retrying.silentRetry 0).trimStep 0 false).governor 0).short = true ∧
      (((retrying.silentRetry 0).trimStep 0 false).governor 0).slot = none ∧
      (((retrying.silentRetry 0).trimStep 0 true).governor 0).slot = some ⟨2, .automatic⟩ := by
  decide +kernel

/-- D1 with one usable point at 900 Pa. -/
def pointed : State :=
  yard.setLine { yard.line with roster := [⟨⟨5, .point 0 0, 50000⟩, .active, 0, some (.point 900 true)⟩] }

theorem witness_districts :
    ((pointed.evaluateDistrict 0).district 0) = ⟨some 900, some (-100), .raise, false⟩ ∧
      (yard.evaluateDistrict 0).district 0 = startDistrict ∧ yard.served 0 = [0, 1] ∧ yard.served 2 = [4] ∧
      ((pointed.evaluateDistrict 0).governor 0).request = .raise := by
  decide +kernel

theorem witness_valveCommands :
    (State.reset.valveCfg 4).fitted = false ∧ (yard.valveCfg 4).fitted = true ∧ (yard.valve 4).state.opens = false ∧
      (withValve 4 .opened yard).command 4 .toShut = (withValve 4 .opened yard).setValve 4 ⟨.closing, .toShut, some ⟨120, 0⟩⟩ := by
  decide +kernel

theorem witness_valveEvents :
    (openingInlet.valve (inletOf 0)).state = .opening ∧ openingInlet.power = .up ∧
      (∀ g, inletOf 0 ≠ outletOf 0 g) ∧ (after (.travelTimerExpiry (inletOf 0)) openingInlet).valve (inletOf 0) =
        ⟨.fault .travel, .off, none⟩ ∧
      (after (.debounceExpiry (.openSwitch 4)) (withChange (.openSwitch 4) .opened (withValve 4 .opened yard))).valve 4 =
        ⟨.fault .unbidden, .off, none⟩ ∧
      (after (.debounceExpiry (.openSwitch 4)) (withChange (.openSwitch 4) .closed (counted (.shutSwitch 4) .closed yard))).valve 4 =
        ⟨.fault .bothSwitches, .off, none⟩ ∧
      (after (.debounceExpiry (.shutSwitch 4)) (withChange (.shutSwitch 4) .closed (counted (.openSwitch 4) .opened
        (withValve 4 (.fault .position) yard)))).valve 4 = ⟨.shut, .off, none⟩ := by
  decide +kernel

/-- A valve in FAULT whose switches are about to count to its open end. -/
def recovering (v : ValveId) (s : State) : State :=
  withChange (.openSwitch v) .closed (counted (.shutSwitch v) .opened (withValve v (.fault .position) s))

theorem witness_recoveredOpen :
    ((recovering 0 yard).valve 0).state.isFault = true ∧ ((recovering 0 yard).contact (.openSwitch 0)).change = some ⟨.closed, 0⟩ ∧
      (0 : ValveId) = inletOf 0 ∧ (4 : ValveId) = outletOf 0 0 ∧ yard.leads 0 0 = false ∧
      (after (.debounceExpiry (.openSwitch 0)) (recovering 0 yard)).valve 0 = ⟨.closing, .toShut, some ⟨120, 0⟩⟩ ∧
      (after (.debounceExpiry (.openSwitch 4)) (recovering 4 yard)).valve 4 = ⟨.closing, .toShut, some ⟨120, 0⟩⟩ ∧
      (after (.debounceExpiry (.openSwitch 0)) (recovering 0 openingInlet)).valve 0 = ⟨.opened, .off, none⟩ ∧
      (after (.debounceExpiry (.openSwitch 4)) (recovering 4 (yard.setGovernor 0
        { yard.governor 0 with lead := some ⟨0, .start⟩ }))).valve 4 = ⟨.opened, .off, none⟩ ∧
      (after (.debounceExpiry (.openSwitch 4)) (recovering 4 ((yard.setGovernor 0
        { yard.governor 0 with lead := some ⟨0, .start⟩ }).setHolder 0 { goodHolder with limit := .lowStop }))).valve 4 =
        ⟨.closing, .toShut, some ⟨120, 0⟩⟩ := by
  decide +kernel

/-- G1's outlet from H1 in fault by its travel timer, a SEND or an automatic changeover behind it. -/
def outletStuck (c : Changeover) : State :=
  taken (changing.setGovernor 0 { changing.governor 0 with slot := some c })

/-- H1 leads G1 by the SEND of the book, its outlet's open switch about to count BROKEN. -/
def leadSlips (auto : Bool) : State :=
  let s := withChange (.openSwitch 4) .opened (withValve 4 .opened (withOrder (sendOrder .leading) yard))
  (s.setSettings { s.settings with governors := s.settings.governors.set 0 { s.governorCfg 0 with autoChangeover := auto } }).setGovernor 0
    { s.governor 0 with lead := some ⟨0, .order 8⟩, status := .fed }

theorem witness_outletFault :
    (outletOf 0 0 = 4) ∧ ((outletStuck ⟨0, .order 8⟩).valve 4).state.isFault = false ∧
      (outletStuck ⟨0, .order 8⟩).leads 0 0 = false ∧
      ((after (.travelTimerExpiry 4) (outletStuck ⟨0, .order 8⟩)).valve 4).state = .fault .travel ∧
      ((after (.travelTimerExpiry 4) (outletStuck ⟨0, .order 8⟩)).order 8).map (·.state) = some (.ended .valveFault) ∧
      ((after (.travelTimerExpiry 4) (outletStuck ⟨0, .order 8⟩)).governor 0).slot = none ∧
      ((after (.travelTimerExpiry 4) (outletStuck ⟨0, .order 8⟩)).alerts.list.any
        fun p => p.cause == ⟨.changeoverFailed, 1⟩) = true ∧
      ((after (.travelTimerExpiry 4) (outletStuck ⟨0, .automatic⟩)).governor 0).slot = none ∧
      ((after (.travelTimerExpiry 4) (outletStuck ⟨0, .automatic⟩)).governor 0).lead = some ⟨1, .start⟩ ∧
      (leadSlips false).leads 0 0 = true ∧ (leadSlips false).changingTo 0 0 = false ∧
      ((after (.debounceExpiry (.openSwitch 4)) (leadSlips false)).governor 0).lead = none ∧
      ((after (.debounceExpiry (.openSwitch 4)) (leadSlips false)).governor 0).status = .unfed ∧
      ((after (.debounceExpiry (.openSwitch 4)) (leadSlips false)).order 8).map (·.state) = some (.ended .valveFault) ∧
      ((after (.debounceExpiry (.openSwitch 4)) (leadSlips true)).governor 0).slot = some ⟨1, .automatic⟩ ∧
      ((after (.debounceExpiry (.openSwitch 4)) ((leadSlips true).setGovernor 0
        { (leadSlips true).governor 0 with slot := some ⟨2, .automatic⟩ })).governor 0).deferred = removalTrigger := by
  decide +kernel

theorem witness_encoder :
    ((after (.encoderStep 0 ⟨true, false⟩) (yard.setHolder 0 { goodHolder with height := 23999 })).holder 0).height = 24000 ∧
      ((after (.encoderStep 0 ⟨true, false⟩) (yard.setHolder 0 { goodHolder with height := 24000 })).holder 0).status = .doubtful ∧
      ((after (.encoderStep 0 ⟨false, true⟩) (yard.setHolder 0 { goodHolder with height := 1 })).holder 0).height = 0 ∧
      ((after (.encoderStep 0 ⟨false, true⟩) (yard.setHolder 0 { goodHolder with height := 0 })).holder 0).status = .doubtful ∧
      ((after (.encoderStep 0 ⟨true, true⟩) yard).holder 0).status = .doubtful := by
  decide +kernel

theorem witness_contacts :
    (yard.contact .trip).raw ≠ .opened ∧ (yard.contact .trip).debounced ≠ some .opened ∧
      ((after (.contactRawChange (.contact .trip) .opened) yard).contact .trip) = ⟨.opened, some .closed, some ⟨.opened, 0⟩⟩ ∧
      ((after (.contactRawChange (.contact .trip) .closed) (after (.contactRawChange (.contact .trip) .opened) yard)).contact .trip) =
        ⟨.closed, some .closed, none⟩ ∧
      (State.reset.contact .trip).change = some ⟨.closed, 0⟩ ∧ (yard.contact .trip).change = none := by
  decide +kernel

/-- Forty milliseconds after the yard trip was seen OPEN and twenty after the mark contact of H1 was seen CLOSED. -/
def tripSeen : State :=
  let s : State := { yard with now := 40 }
  (s.setContact .trip ⟨.opened, some .closed, some ⟨.opened, 0⟩⟩).setContact (.mark 0) ⟨.closed, some .opened, some ⟨.closed, 20⟩⟩

theorem witness_debounceAmend :
    tripSeen.power = .up ∧ tripSeen.ConfigurationsSound ∧ tripSeen.yardCfg.debounce = 50 ∧
      (tripSeen.contact .trip).change = some ⟨.opened, 0⟩ ∧
      (after (.amend 8 0 [(1, 40)]) tripSeen).contact .trip = ⟨.opened, some .opened, none⟩ ∧
      (after (.amend 8 0 [(1, 40)]) tripSeen).contact (.mark 0) = tripSeen.contact (.mark 0) ∧
      (after (.amend 8 0 [(1, 41)]) tripSeen).contact .trip = tripSeen.contact .trip ∧
      (after (.amend 8 0 [(1, 10)]) tripSeen).contact (.mark 0) = ⟨.closed, some .closed, none⟩ ∧
      (after (.amend 8 0 [(1, 50)]) tripSeen).yardCfg.debounce = 50 :=
  ⟨by decide +kernel, configurationsSound_of _ (by decide +kernel), by decide +kernel, by decide +kernel, by decide +kernel,
    by decide +kernel, by decide +kernel, by decide +kernel, by decide +kernel⟩

/-- The outlet H1→G1 in FAULT with both switches MADE and both about to count BROKEN, its alert acknowledged. -/
def restless : State :=
  let s : State := { withValve 4 (.fault .bothSwitches) yard with now := 40 }
  let u := (s.setContact (.openSwitch 4) ⟨.opened, some .closed, some ⟨.opened, 0⟩⟩).setContact (.shutSwitch 4)
    ⟨.opened, some .closed, some ⟨.opened, 0⟩⟩
  after (.acknowledge ⟨4, none⟩) u.settle

/-- R44, R165: a valve that leaves FAULT and enters it again within one AMEND has a fresh instance. -/
theorem test_fresh_fault_instance :
    (restless.alerts.list.filter fun p => p.cause == ⟨.valveFault, 5⟩).map (·.acknowledged) = [true] ∧
      ((after (.amend 8 0 [(1, 40)]) restless).valve 4).state = .fault .unbidden ∧
      ((after (.amend 8 0 [(1, 40)]) restless).alerts.list.getLast?.map fun p => (p.cause, p.acknowledged)) =
        some (⟨.valveFault, 5⟩, false) ∧
      ((after (.amend 8 0 [(1, 41)]) restless).alerts.list.filter fun p => p.cause == ⟨.valveFault, 5⟩).map (·.acknowledged) =
        [true] := by
  decide +kernel

/-- H1 leads G1 on a ceiling below the desired setpoint, one step above LOW_STOP, its alert acknowledged; the outlet of H2
stands OPEN. -/
def limited : State :=
  let s := withValve (outletOf 1 0) .opened (withValve (outletOf 0 0) .opened
    (yard.setHolder 0 { goodHolder with height := 1001, floating := 1, pressure := 1250, limit := .lowWarn }))
  let c : GovernorSettings := { fittedSettings.governors[(0 : GovernorId)] with minSetpoint := 500, maxSetpoint := 6000 }
  let u := (s.setGovernorCfg 0 c).setGovernor 0 { s.governor 0 with lead := some ⟨0, .start⟩, trim := 3000 }
  after (.acknowledge ⟨2, none⟩) (u.refresh 0).settle

/-- R88, R92, R165: a lead removed and another made at once clears SUPPLY_LIMITED and raises it afresh. -/
theorem test_fresh_supply_instance :
    (limited.alerts.list.filter fun p => p.cause == ⟨.supplyLimited, 1⟩).map (·.acknowledged) = [true] ∧
      ((after (.encoderStep 0 ⟨false, true⟩) limited).governor 0).lead = some ⟨1, .automatic⟩ ∧
      ((after (.encoderStep 0 ⟨false, true⟩) limited).alerts.list.filter fun p => p.cause == ⟨.supplyLimited, 1⟩).map
        (·.acknowledged) = [false] := by
  decide +kernel

theorem witness_landingsAndMarks :
    ((withChange (.landed 0) .closed yard).contact (.landed 0)).change = some ⟨.closed, 0⟩ ∧
      ((after (.debounceExpiry (.landed 0)) (withChange (.landed 0) .closed yard)).holder 0).height = 0 ∧
      (yard.holderCfg 0).marks = [8000, 16000] ∧
      ((after (.debounceExpiry (.mark 0)) (withChange (.mark 0) .closed (yard.setHolder 0 { goodHolder with height := 8100 }))).holder 0).height = 8000 ∧
      ((after (.debounceExpiry (.mark 0)) (withChange (.mark 0) .closed (yard.setHolder 0 { goodHolder with height := 8101 }))).holder 0).status = .slipped ∧
      ((yard.contact (.mark 0)).change = some ⟨.opened, 0⟩) := by
  decide +kernel

theorem witness_gaugeAmend :
    yard.power = .up ∧ yard.ConfigurationsSound ∧ yard.GaugesSound ∧ (yard.holderCfg 0).totalStroke = 24000 ∧
      ((after (.amend 1 1 [(22, 24000)]) yard).holder 0).limit = .highStop ∧
      (after (.amend 1 1 [(22, 24001)]) yard).port.reply = some [4#8, 3#8, 22#8] ∧
      ((after (.amend 1 1 [(22, 1000)]) yard).holder 0).limit = .lowStop ∧
      ((after (.amend 1 1 [(22, 1000)]) State.reset).holder 0).meanCv = some State.reset.yardCfg.declaredCv := by
  refine ⟨yard_up, yard_configurationsSound, by unfold State.GaugesSound; decide +kernel, ?_⟩
  decide +kernel

theorem witness_stockArithmetic :
    factoryHolder.Sound ∧ (1 : Fin 4).val < factoryHolder.lifts ∧ factoryHolder.boundary 1 ≤ 8000 ∧
      8000 < factoryHolder.boundary 1 + factoryHolder.stroke[(1 : Fin 4)] ∧ vapourTable[0]? = some 51 ∧
      vapourTable[1]? = some 125 ∧ vapourTable[7]? = some 7384 ∧ vapourTable[8]? = some 12350 :=
  ⟨factoryHolder_sound, by decide, by decide, by decide, by decide, by decide, by decide, by decide⟩

/-- A rise with the inlet OPEN mixes the make CV in, and with it shut keeps the mean CV. -/
theorem witness_mixing :
    let s := (belowTarget.setConditions { belowTarget.conditions with lastMakeCv := some 18500 }).setHolder 0
      { goodHolder with stock := some 12000 }
    (s.valve (inletOf 0)).state = .opened ∧ ((s.recompute true 0).holder 0).stock = goodHolder.stock ∧
      ((s.recompute true 0).holder 0).meanCv =
        some (mixedCv 12000 (some 17500) (goodHolder.stock.getD 0 - 12000) 18500) ∧
      (((s.setValve (inletOf 0) shutValve).recompute true 0).holder 0).meanCv = some 17500 := by
  decide +kernel

theorem witness_calls :
    (waiting (.point 0 0) yard).power = .up ∧
      (waiting (.point 0 0) yard).line.activity = .waiting ⟨5, .point 0 0, some 1200, false, 150⟩ 0 ∧
      (waiting (.point 0 0) yard).station 5 = some ⟨⟨5, .point 0 0, 50000⟩, .unheard, 2, none⟩ ∧
      judgeAnswer 5 (.point 0 0) [5#8, 5#8, 3#8, 0x84#8, 0#8] = some (.point 900 true) ∧
      judgeAnswer 5 (.point 0 0) [5#8, 5#8, 3#8, 0x84#8, 2#8] = none ∧ receive [0xD4#8] = .broken ∧
      receive [0xD5#8, 5#8] = .incomplete ∧
      ((after (.answerReceived (frameOf [5#8, 5#8, 3#8, 0x84#8, 0#8])) (waiting (.point 0 0) yard)).district 0).request = .raise ∧
      ((after .answerTimeout (waiting (.point 0 0) yard)).station 5).map (·.link) = some .lost := by
  decide +kernel

/-- The call of the YARD station, its station retired and enrolled again while it waits. -/
def discardedCall : State :=
  (waiting .yard yard).setLine { (waiting .yard yard).line with activity := .waiting ⟨5, .yard, none, true, 150⟩ 0 }

theorem witness_discardedCall :
    discardedCall.power = .up ∧ discardedCall.line.activity = .waiting ⟨5, .yard, none, true, 150⟩ 0 ∧
      discardedCall.station 5 = some ⟨⟨5, .yard, 50000⟩, .unheard, 2, none⟩ ∧ yard.line.activity = .idle ∧
      (after .answerTimeout discardedCall).station 5 = discardedCall.station 5 ∧
      (after (.answerReceived [0xD4#8]) discardedCall).line = { discardedCall.line with activity := .gap 0 } := by
  decide +kernel

/-- The call of a station that has left the roster. -/
def goneCall : State :=
  (waiting .yard yard).setLine { (waiting .yard yard).line with
    roster := [], activity := .waiting ⟨5, .yard, none, true, 150⟩ 0 }

theorem witness_goneCall :
    goneCall.power = .up ∧ goneCall.line.activity = .waiting ⟨5, .yard, none, true, 150⟩ 0 ∧ goneCall.station 5 = none ∧
      receive [0xD4#8] ≠ .incomplete ∧
      (after (.answerReceived [0xD4#8]) goneCall).line = { goneCall.line with activity := .gap 0 } ∧
      (after .answerTimeout goneCall).line = { goneCall.line with activity := .gap 0 } := by
  decide +kernel

theorem witness_governorAndYardAnswers :
    judgeAnswer 5 (.governor 0) [5#8, 3#8, 4#8, 0xB0#8, 1#8] = some (.governor 1200 .localMode) ∧
      (waiting (.governor 0) yard).station 5 = some ⟨⟨5, .governor 0, 50000⟩, .unheard, 2, none⟩ ∧
      ((after (.answerReceived (frameOf [5#8, 3#8, 4#8, 0xB0#8, 1#8])) (waiting (.governor 0) yard)).governor 0).notFollowing = 0 ∧
      ((after (.answerReceived (frameOf [5#8, 3#8, 4#8, 0xB1#8, 1#8])) (waiting (.governor 0) yard)).governor 0).notFollowing = 1 ∧
      judgeAnswer 5 .yard [5#8, 1#8, 0x01#8, 0x4C#8, 0x08#8, 0#8, 150#8, 0x7F#8, 0xFF#8, 0#8, 0#8, 0#8, 0#8] =
        some (.yard 85000 #v[some 150, none, some 0, some 0]) := by
  decide +kernel

theorem witness_pointAnswers :
    judgeAnswer 5 (.point 0 0) [5#8, 5#8, 3#8, 0x84#8, 1#8] = some (.point 900 false) ∧
      (taken (waiting (.point 0 0) yard)).AlertsSound ∧ (taken (waiting (.point 0 0) yard)).enabled .pointFault = true ∧
      ((after (.answerReceived (frameOf [5#8, 5#8, 3#8, 0x84#8, 1#8])) (waiting (.point 0 0) yard)).alerts.list.any
        fun p => p.cause == ⟨.pointFault, 5⟩) = true ∧
      ((after (.answerReceived (frameOf [5#8, 5#8, 3#8, 0x84#8, 0#8])) (waiting (.point 0 0) yard)).alerts.list.any
        fun p => p.cause == ⟨.pointFault, 5⟩) = false ∧
      ((after (.answerReceived (frameOf [5#8, 5#8, 3#8, 0x84#8, 0#8])) (waiting (.point 0 0) yard)).district 0).farEnd =
        some 900 :=
  ⟨by decide +kernel, alertsSound_of _ (by decide +kernel), by decide +kernel, by decide +kernel, by decide +kernel,
    by decide +kernel⟩

/-- The DMETER of D1 waiting, its last index held. -/
def metered (last : Nat) : State :=
  let s := waiting (.dmeter 0) yard
  s.setAccount 0 { s.account 0 with lastIndex := some last }

theorem witness_meters :
    (metered 999420).power = .up ∧ (metered 999420).line.activity = .waiting ⟨5, .dmeter 0, some 1200, false, 150⟩ 0 ∧
      judgeAnswer 5 (.dmeter 0) [5#8, 4#8, 0#8, 0x05#8, 0x1E#8, 0x07#8, 0xD0#8, 0#8, 150#8] = some (.dmeter 1310 2000 150) ∧
      ((after (.answerReceived (frameOf [5#8, 4#8, 0#8, 0x05#8, 0x1E#8, 0x07#8, 0xD0#8, 0#8, 150#8])) (metered 999420)).account 0).today.cvAssumed = true ∧
      ((after (.answerReceived (frameOf [5#8, 4#8, 0#8, 0x05#8, 0x1E#8, 0x07#8, 0xD0#8, 0#8, 150#8])) (metered 1311)).account 0).today.volume = 0 ∧
      ((after (.answerReceived (frameOf [5#8, 4#8, 0#8, 0x05#8, 0x1E#8, 0x07#8, 0xD0#8, 0#8, 150#8])) (metered 1310)).account 0) =
        (metered 1310).account 0 := by
  decide +kernel

/-- The MAKE station waiting, its last index held. -/
def makeMetered (last : Nat) : State :=
  let s := waiting .make yard
  s.setYard { s.yard with lastMakeIndex := some last }

theorem witness_makeMeter :
    (makeMetered 999420).power = .up ∧ (makeMetered 999420).line.activity = .waiting ⟨5, .make, some 1200, false, 150⟩ 0 ∧
      judgeAnswer 5 .make [5#8, 2#8, 0#8, 0x05#8, 0x1E#8, 0x07#8, 0xD0#8, 0#8, 150#8, 0xFF#8, 0xFF#8] =
        some (.make 1310 2000 150 65535) ∧
      ((after (.answerReceived (frameOf [5#8, 2#8, 0#8, 0x05#8, 0x1E#8, 0x07#8, 0xD0#8, 0#8, 150#8, 0xFF#8, 0xFF#8]))
        (makeMetered 999420)).yard.makeVolume) = standardVolume 1890000 2000 150 101325 ∧
      (after (.answerReceived (frameOf [5#8, 2#8, 0#8, 0x05#8, 0x1E#8, 0x07#8, 0xD0#8, 0#8, 150#8, 0xFF#8, 0xFF#8]))
        (makeMetered 1310)).yard = (makeMetered 1310).yard ∧
      (after (.answerReceived (frameOf [5#8, 2#8, 0#8, 0x05#8, 0x1E#8, 0x07#8, 0xD0#8, 0#8, 150#8, 0xFF#8, 0xFF#8]))
        (makeMetered 1310)).makeCv = yard.yardCfg.cvCeiling ∧
      (after (.answerReceived (frameOf [5#8, 2#8, 0#8, 0x05#8, 0x1E#8, 0x07#8, 0xD0#8, 0#8, 150#8, 0xFF#8, 0xFF#8]))
        (makeMetered 1311)).yard.lastMakeIndex = some 1310 ∧
      (after (.answerReceived (frameOf [5#8, 2#8, 0#8, 0x05#8, 0x1E#8, 0x07#8, 0xD0#8, 0#8, 150#8, 0xFF#8, 0xFF#8]))
        (waiting .make yard)).yard.lastMakeIndex = some 1310 := by
  decide +kernel

theorem witness_answersReadBack :
    receive (frameOf [5#8, 3#8, 4#8, 0xB0#8, 1#8] ++ [1#8]) = .body [5#8, 3#8, 4#8, 0xB0#8, 1#8] ∧
      (∀ h : HolderId, (#v[some (-32767), some 32766, none, some 0] : Vector (Option Int) 4)[h].all
        (fun v => decide (-32768 < v ∧ v < 32767)) = true) := by
  decide +kernel

theorem witness_cycles :
    yard.line.activity = .idle ∧ (waiting .yard yard).line.activity ≠ .idle ∧
      (after .cycleTimerExpiry (waiting .yard yard)).line.owed = true ∧
      (after .gapEnd ((waiting .yard yard).setLine { (waiting .yard yard).line with activity := .gap 0, position := 0 })).line.position = 1 ∧
      (after .gapEnd ((waiting .yard yard).setLine { (waiting .yard yard).line with activity := .gap 0, owed := true })).line.owed = false ∧
      (after .callSent ((waiting .yard yard).setLine { (waiting .yard yard).line with activity := .sending ⟨5, .yard, none, false, 150⟩ })).line.activity =
        .waiting ⟨5, .yard, none, false, 150⟩ 0 := by
  decide +kernel

theorem witness_enrol :
    (after (.enrol ⟨254, 2, 0, 0, some 200000⟩) yard).port.reply = some [8#8, 0#8] ∧
      (after (.enrol ⟨255, 2, 0, 0, none⟩) yard).port.reply = some [8#8, 3#8] ∧
      (after (.enrol ⟨1, 2, 0, 0, some 200001⟩) yard).port.reply = some [8#8, 3#8] ∧
      (after (.enrol ⟨1, 3, 1, 0, some 1⟩) yard).port.reply = some [8#8, 3#8] ∧
      (after (.enrol ⟨5, 2, 0, 0, none⟩) (waiting .yard yard)).port.reply = some [8#8, 13#8] ∧
      (after (.enrol ⟨6, 1, 0, 0, none⟩) (waiting .yard yard)).port.reply = some [8#8, 13#8] ∧
      (after (.enrol ⟨6, 1, 0, 0, none⟩) (yard.setLine { yard.line with
        roster := List.replicate 32 ⟨⟨5, .make, 1⟩, .unheard, 0, none⟩ })).port.reply = some [8#8, 6#8] := by
  decide +kernel

/-- D1 is judged with its POINT station enrolled and again without it. -/
theorem witness_pointStations :
    ((after (.enrol ⟨6, 5, 1, 2, none⟩) pointed).district 0) = ⟨some 900, some (-100), .raise, false⟩ ∧
      ((after (.retireStation 5) (pointed.evaluateDistrict 0)).district 0) = startDistrict ∧
      ((after (.retireStation 5) (pointed.evaluateDistrict 0)).governor 0).request = .hold := by
  decide +kernel

theorem waiting_rostersSound : (waiting .yard yard).RostersSound := by
  intro c hc
  have : c.roster = [⟨5, .yard, 50000⟩] := by
    have hs : (waiting .yard yard).configurations = [⟨fittedSettings, [⟨5, .yard, 50000⟩]⟩] := by decide +kernel
    rw [hs] at hc; simp at hc; rw [hc]
  rw [this]; exact ⟨by simp, by simp, by simp, by simp⟩

theorem witness_retireStation :
    (waiting .yard yard).power = .up ∧ (waiting .yard yard).RostersSound ∧
      (waiting .yard yard).line.roster = [] ++ ⟨⟨5, .yard, 50000⟩, .unheard, 2, none⟩ :: [] ∧
      (waiting .yard yard).station 6 = none ∧ (after (.retireStation 5) (waiting .yard yard)).line.position = 0 ∧
      (after (.retireStation 5) (waiting .yard yard)).line.activity = .waiting ⟨5, .yard, some 1200, true, 150⟩ 0 :=
  ⟨by decide +kernel, waiting_rostersSound, by decide +kernel, by decide +kernel, by decide +kernel, by decide +kernel⟩

theorem witness_increment :
    (((metered 1310).account 0).lastIndex = some 1310) ∧ increment 1310 1001310 = 0 ∧
      (metered 1310).districtMeter 0 ⟨5, .dmeter 0, 50000⟩ 1001310 2000 150 = metered 1310 ∧
      (yard.setYard { yard.yard with lastMakeIndex := some 1310 }).yard.lastMakeIndex = some 1310 := by
  decide +kernel

/-- One minute before the day close. -/
def closingTime : State := yard.setClock { yard.clock with minute := 359, dayIndex := 6 }

theorem witness_dayClose :
    closingTime.power = .up ∧ closingTime.AlertsSound ∧ nextMinute closingTime.clock.minute = closingTime.yardCfg.closeMinute ∧
      (after .clockAdvance closingTime).clock.dayIndex = 0 ∧
      (after .clockAdvance closingTime).yard.opening = some (4 * factoryHolder.stockAt 12000 150 101325) ∧
      (after .clockAdvance (yard.setClock { yard.clock with minute := 1439 })).clock.minute = 0 :=
  ⟨by decide +kernel, alertsSound_of _ (by decide +kernel), by decide +kernel, by decide +kernel, by decide +kernel,
    by decide +kernel⟩

/-- The day before the close with an opening stock held. -/
def closingWith (opening : Nat) : State := closingTime.setYard { closingTime.yard with opening := some opening }

theorem witness_unaccounted :
    ((after .clockAdvance (closingWith 0)).alerts.list.any fun p => p.cause == ⟨.unaccountedHigh, 0⟩) = true ∧
      (closingWith (4 * factoryHolder.stockAt 12000 150 101325)).AlertsSound ∧
      ((after .clockAdvance (closingWith (4 * factoryHolder.stockAt 12000 150 101325))).alerts.list.any
        fun p => p.cause == ⟨.unaccountedHigh, 0⟩) = false ∧
      (after .clockAdvance (closingTime.setAccount 0 { closingTime.account 0 with today := ⟨1, ⟨2, 999⟩, false⟩ })).yard.closedDay.map
        (·.sendEnergy) = some ⟨2, 999⟩ :=
  ⟨by decide +kernel, alertsSound_of _ (by decide +kernel), by decide +kernel, by decide +kernel⟩

theorem witness_acknowledge :
    yard.power = .up ∧ yard.AlertsSound ∧ yard.alerts.list.map (·.cause) =
        [⟨.clockUnset, 0⟩, ⟨.unfed, 1⟩, ⟨.unfed, 2⟩, ⟨.unfed, 3⟩, ⟨.unfed, 4⟩, ⟨.conditionsAssumed, 0⟩] ∧
      (after (.acknowledge ⟨2, none⟩) yard).port.reply = some [9#8, 0#8, 0#8, 4#8] ∧
      (after (.acknowledge ⟨1, some (5, 0)⟩) yard).port.reply = some [9#8, 0#8, 0#8, 1#8] ∧
      (after (.acknowledge ⟨1, some (5, 0)⟩) (after (.acknowledge ⟨1, none⟩) yard)).port.reply = some [9#8, 9#8] ∧
      (after (.acknowledge ⟨8, none⟩) yard).port.reply = some [9#8, 1#8] ∧
      (after (.acknowledge ⟨2, some (5, 0)⟩) yard).port.reply = some [9#8, 1#8] := by
  refine ⟨yard_up, yard_alertsSound, ?_⟩
  decide +kernel

/-- A write under way. -/
def writing : State := yard.setStore ⟨none, .writing ⟨factorySettings, []⟩⟩

theorem witness_store :
    writing.power = .up ∧ writing.store.state.isWriting = true ∧ writing.store.state = .writing ⟨factorySettings, []⟩ ∧
      yard.store.state.isWriting = false ∧ (after .store writing).port.reply = some [11#8, 14#8] ∧
      (after (.storeWriteEnd true) writing).store = ⟨some ⟨factorySettings, []⟩, .idle⟩ ∧
      (after (.storeWriteEnd false) writing).store = ⟨none, .failed⟩ ∧
      (after (.restart .cold) writing).port.reply = some [12#8, 14#8] := by
  decide +kernel

theorem witness_amend :
    yard.power = .up ∧ yard.recordOf 1 5 = .error .noSuchRecord ∧ yard.recordOf 1 1 = .ok (.holder 0) ∧
      yard.fieldRule (.holder 0) 33 = .undefined ∧ yard.fieldRule (.holder 0) 10 = .readOnly ∧
      yard.fieldRule (.holder 0) 1 = .range 1 4 ∧
      yard.amendRefusal (.governor 0) [(23, -400), (7, 600)] none = none ∧
      yard.amendRefusal (.district 0) [(1, 3), (2, 5000)] none = none ∧
      (waiting .make yard).amendRefusal (.station 5) [(4, 200000)] none = none ∧
      yard.amendRefusal .profiles [(16, 6000)] none = none ∧ yard.amendRefusal .yard [(20, 1439), (22, 6)] none = none ∧
      yard.amendRefusal (.alertGroup 2 1) [(1, 7), (2, 31)] none = none := by
  decide +kernel

theorem witness_amend_refusals :
    yard.firstRefusal (.holder 0) [] [(19, 20)] = none ∧ yard.fieldRule (.holder 0) 19 = .range 20 1000 ∧
      (after (.amend 1 1 [(19, 20), (19, 20)]) yard).port.reply = some [4#8, 3#8, 19#8] ∧
      (after (.amend 1 1 [(19, 20), (10, 20)]) yard).port.reply = some [4#8, 4#8, 10#8] ∧
      (after (.amend 1 1 [(20, 20), (17, 3000)]) yard).port.reply = some [4#8, 3#8, 17#8] ∧
      17 ∈ yard.brokenFields (.holder 0) [(20, 20), (17, 3000)] ∧ 20 ∉ yard.brokenFields (.holder 0) [(20, 20), (17, 3000)] ∧
      (after (.amend 1 1 [(6, 7900), (22, 23901)]) yard).port.reply = some [4#8, 3#8, 6#8] ∧
      (after (.amend 4 1 [(2, 799)]) yard).port.reply = some [4#8, 3#8, 2#8] ∧
      (after (.amend 4 1 [(8, 0x02010100)]) yard).port.reply = some [4#8, 3#8, 8#8] ∧
      (after (.amend 4 1 [(23, 401)]) yard).port.reply = some [4#8, 3#8, 23#8] ∧
      (after (.amend 5 5 [(1, 1)]) yard).port.reply = some [4#8, 3#8, 1#8] ∧
      (after (.amend 8 0 [(5, 24000)]) yard).port.reply = some [4#8, 3#8, 5#8] := by
  decide +kernel

theorem witness_amend_fields :
    yard.amendRefusal (.holder 0) [(6, 7900), (20, 500), (21, 1)] none = none ∧
      ((after (.amend 1 1 [(6, 7900), (20, 500), (21, 1)]) yard).holder 0).status = .unset ∧
      ((after (.amend 1 1 [(6, 7900), (20, 500), (21, 1)]) yard).holderCfg 0).totalStroke = 23900 ∧
      ((after (.amend 1 1 [(9, 12000)]) yard).holder 0).status = .good ∧
      yard.amendRefusal (.governor 0) [(5, 2), (8, 0x03040201), (53, 15), (54, 1)] none = none ∧
      ((after (.amend 4 1 [(5, 2), (8, 0x03040201), (53, 15), (54, 1)]) yard).governorCfg 0).standby = [3, 1, 0] ∧
      ((after (.amend 4 1 [(5, 2), (8, 0x03040201), (53, 15), (54, 1)]) yard).governorCfg 0).bandA[(23 : Fin 24)] = 15 ∧
      ((after (.amend 4 1 [(9, 0)]) (inFlight removalTrigger)).governor 0).deferred = noTriggers ∧
      ((after (.amend 4 1 [(10, 100)]) (changeoversOff.setGovernor 0
        { changeoversOff.governor 0 with deferred := removalTrigger })).governor 0).deferred = removalTrigger ∧
      yard.amendRefusal .yard [(6, 17000), (5, 16000), (15, 1)] none = none ∧
      ((after (.amend 8 0 [(6, 17000), (5, 16000), (15, 1)]) yard).holder 0).meanCv = some 17000 ∧
      (after (.amend 8 0 [(6, 17000), (5, 16000), (15, 1)]) yard).yardCfg.week[(6 : Fin 7)] = .b := by
  decide +kernel

theorem witness_amend_fitted :
    (after (.amend 2 1 [(2, 1)]) yard).port.reply = some [4#8, 4#8, 2#8] ∧
      (after (.amend 2 5 [(2, 1)]) (withValve 4 .opening yard)).port.reply = some [4#8, 13#8, 2#8] ∧
      (after (.amend 2 5 [(2, 1)]) (withOrder (sendOrder .queued) yard)).port.reply = some [4#8, 13#8, 2#8] ∧
      (after (.amend 2 5 [(2, 1)]) (withValve 4 (.fault .travel) yard)).valve 4 = ⟨.shut, .off, none⟩ ∧
      (State.reset.valveCfg 4).fitted = false ∧
      (after (.amend 2 5 [(2, 0)]) State.reset).valve 4 = ⟨.shut, .off, none⟩ ∧
      (after (.amend 2 5 [(2, 0)]) (State.reset.setContact (.openSwitch 4) ⟨.closed, none, none⟩)).valve 4 =
        ⟨.fault .position, .off, none⟩ ∧
      (after (.amend 2 5 [(2, 0)]) ((State.reset.setContact (.openSwitch 4) ⟨.closed, none, none⟩).setContact
        (.shutSwitch 4) ⟨.opened, none, none⟩)).valve 4 = ⟨.closing, .toShut, some ⟨120, 0⟩⟩ := by
  decide +kernel

theorem witness_amend_valve :
    (State.reset.valveCfg 4).fitted = false ∧ (yard.valveCfg 4).fitted = true ∧ (yard.valve 4).state.isFault = false ∧
      ((withValve 4 (.fault .travel) yard).valve 4).state.isFault = true ∧
      ((after (.amend 2 5 [(4, 0)]) (withValve 4 (.fault .travel) yard)).valve 4).state = .closing ∧
      (after (.amend 2 5 [(3, 600)]) yard).valveCfg 4 = ⟨true, 600⟩ := by
  decide +kernel

theorem witness_coldStart :
    (after (.powerOn false true) writing).lineSpeed = 19200 ∧
      (after .replySent (after (.contactRawChange .strap .closed) (replied (some .cold) yard))).lineSpeed = 19200 ∧
      (after (.powerOn false true) writing).store = ⟨none, .idle⟩ ∧
      (replied (some .cold) yard).port.receiver = .replying ∧ (replied (some .cold) yard).port.restart = some .cold ∧
      (replied (some .cold) yard).store.state.isWriting = false ∧ (replied (some .cold) yard).power = .up := by
  decide +kernel

theorem witness_warmStart :
    filling.BookSound ∧ ((after (.powerOn true false) filling).order 7).map (·.state) = some (.ended .interrupted) ∧
      ((after (.powerOn true false) filling).holder 0).status = .doubtful :=
  ⟨filling_bookSound, by decide +kernel, by decide +kernel⟩

/-- A module that lost its mains at minute 355 with the close minute 360, an event pending. -/
def darkened : State :=
  { (filling.setClock { filling.clock with minute := 365, minutesDown := 10, dayIndex := 6 }).setAlerts
      { filling.alerts with list := ⟨⟨.meterJump, 5⟩, false, 2, 7, 9⟩ :: filling.alerts.list } with power := .down }

theorem witness_warmStart_close :
    darkened.BookSound ∧ darkened.yardCfg.closeMinute = 360 ∧ (360 + 5) % 1440 = darkened.clock.minute ∧
      (after (.powerOn true false) darkened).clock.dayIndex = 0 ∧
      (after (.powerOn true false) darkened).yard.closedDay.map (·.dayIndex) = some 6 ∧
      (after (.powerOn true false) (darkened.setClock { darkened.clock with minutesDown := 5 })).clock.dayIndex = 6 ∧
      (after (.powerOn true false) { darkened with power := .up }).clock.dayIndex = 6 ∧
      (after (.powerOn true false) darkened).alerts.list.head? = some ⟨⟨.meterJump, 5⟩, false, 2, 7, 9⟩ ∧
      (after .replySent (replied (some .warm) filling)).clock.dayIndex = filling.clock.dayIndex ∧
      (after (.powerOn true false) pointed).line.roster = [⟨⟨5, .point 0 0, 50000⟩, .unheard, 0, some (.point 900 true)⟩] ∧
      ((after .replySent (replied (some .warm) filling)).order 7).map (·.state) = some (.ended .interrupted) :=
  ⟨⟨by decide +kernel, by decide +kernel, by decide +kernel, by decide +kernel, by decide +kernel⟩, by decide +kernel⟩

/-- An amended yard, governor, district or limit height and what follows in the live record. -/
theorem witness_amend_live :
    (after (.amend 8 0 [(2, 20)]) { yard with now := 7 }).line.cycleSince = 7 ∧
      (after (.amend 8 0 [(3, 60)]) { yard with now := 7 }).line.cycleSince = 0 ∧
      ((after (.amend 1 1 [(16, 12000)]) yard).holder 0).limit = .lowWarn ∧
      ((after (.amend 1 1 [(20, 500)]) yard).holder 0).limit = .normal ∧
      ((after (.amend 4 1 [(5, 1)]) raising).governor 0).request = .hold ∧
      ((after (.amend 4 1 [(3, 50)]) raising).governor 0).request = .raise ∧
      (after (.amend 5 1 [(2, 1001)]) pointed).district 0 = ⟨some 900, some (-101), .raise, false⟩ ∧
      ((after (.amend 5 1 [(1, 3)]) raising).governor 0).request = .hold := by
  decide +kernel

/-- G1's station stands first on the roster of the yard, and on that of the image. -/
def rostered : State :=
  let s := yard.setLine { yard.line with roster := [⟨⟨51, .governor 0, 50000⟩, .active, 2, some (.governor 1234 .normal)⟩] }
  s.setStore ⟨some ⟨fittedSettings, [⟨51, .governor 0, 50000⟩]⟩, .idle⟩

/-- The first cycle of a start calls the station at place 1 with the commanded setpoint of the start; with no station enrolled
the line is idle. -/
theorem witness_firstCycle :
    rostered.BookSound ∧
      (after (.powerOn true false) rostered).line =
        ⟨[⟨⟨51, .governor 0, 50000⟩, .unheard, 0, some (.governor 1234 .normal)⟩],
          .sending ⟨51, .governor 0, some 1200, false, 150⟩, 1, false, 0⟩ ∧
      (after (.powerOn false false) rostered).line =
        ⟨[⟨⟨51, .governor 0, 50000⟩, .unheard, 0, none⟩], .sending ⟨51, .governor 0, some 1200, false, 150⟩, 1, false, 0⟩ ∧
      (after .replySent (replied (some .warm) rostered)).line.position = 1 ∧
      (after .replySent (replied (some .cold) rostered)).line.position = 1 ∧
      (after (.powerOn true false) yard).line = ⟨[], .idle, 0, false, 0⟩ :=
  ⟨⟨by decide +kernel, by decide +kernel, by decide +kernel, by decide +kernel, by decide +kernel⟩, by decide +kernel⟩

/-- The open and shut switches of H2's outlet to G1 stand OPEN, and an event is pending. -/
theorem witness_coldStart_governors :
    let s := darkened.setContacts ((darkened.contacts.put (.openSwitch 8) ⟨.closed, none, none⟩).put (.shutSwitch 8) ⟨.opened, none, none⟩)
    let u := s.setStore ⟨some ⟨fittedSettings, []⟩, .idle⟩
    outletOf 1 0 = 8 ∧ ((after (.powerOn false false) u).governor 0).lead = some ⟨1, .start⟩ ∧
      ((after (.powerOn false false) u).governor 0).status = .blind ∧
      ((after (.powerOn false false) u).governor 1).lead = none ∧
      ((after (.powerOn false false) u).alerts.list.map (·.cause)).head? = some ⟨.restarted, 1⟩ ∧
      ((after (.powerOn false false) u).alerts.list.any fun p => p.cause.kind == .meterJump) = false := by
  decide +kernel

/-! ## Witnesses for the invariants: a state with the invariant, and a step from it -/

/-- With nothing waiting and no timer due, a step lets time pass. -/
theorem step_idle (s : State) (hp : s.pending = []) (hd : s.dueCommand = none) : step s = .next s.tick := by
  show (match s.pending with
    | c :: rest => exec c { s with pending := rest }
    | [] => match s.dueCommand with
      | some c => exec c s
      | none => .next s.tick) = _
  rw [hp, hd]

theorem yard_step : step yard = .next yard.tick := step_idle _ (by decide +kernel) (by decide +kernel)

theorem filling_step : step filling = .next filling.tick := step_idle _ (by decide +kernel) (by decide +kernel)

theorem filling_fillsWait : filling.FillsWait := by unfold State.FillsWait; decide +kernel

theorem yard_cvsSound : yard.CvsSound := by
  intro h cv hcv
  have hm : ∀ h : HolderId, (yard.holder h).meanCv = some 17500 := by decide +kernel
  rw [hm h] at hcv
  obtain rfl := Option.some.inj hcv
  decide +kernel

theorem witness_keepsBook : filling.BookSound ∧ filling.FillsWait ∧ step filling = .next filling.tick :=
  ⟨filling_bookSound, filling_fillsWait, filling_step⟩

theorem witness_keepsConfigurations :
    yard.ConfigurationsSound ∧ yard.RostersSound ∧ yard.CvsSound ∧ step yard = .next yard.tick :=
  ⟨yard_configurationsSound, yard_rostersSound, yard_cvsSound, yard_step⟩

theorem witness_keepsStock : yard.GaugesSound ∧ yard.StocksDerived ∧ step yard = .next yard.tick :=
  ⟨by unfold State.GaugesSound; decide +kernel, by unfold State.StocksDerived; decide +kernel, yard_step⟩

theorem witness_keepsValves : yard.ValvesSound ∧ step yard = .next yard.tick := by
  refine ⟨fun v => ?_, yard_step⟩
  have hp : yard.power = .up := yard_up
  rw [hp]
  have hv : yard.valve v = shutValve := by revert v; decide +kernel
  have hf : (yard.valveCfg v).fitted = true := by revert v; decide +kernel
  rw [hv, hf]
  exact ⟨rfl, by decide, by simp⟩

theorem witness_keepsSetpoints :
    yard.ConfigurationsSound ∧ yard.SetpointsSound ∧ yard.GovernorsDerived ∧ step yard = .next yard.tick := by
  refine ⟨yard_configurationsSound, ⟨by decide +kernel, by decide +kernel⟩, fun _ g => ?_, yard_step⟩
  have hl : (yard.governor g).lead = none := by revert g; decide +kernel
  have hc : (yard.governor g).ceiling = none := by revert g; decide +kernel
  have hs : (yard.governor g).short = false := by revert g; decide +kernel
  refine ⟨fun _ => by revert g; decide +kernel, fun l h => ?_, fun l h => ?_, fun _ => hc, ?_, ?_, ?_, ?_⟩
  · rw [hl] at h; cases h
  · rw [hl] at h; cases h
  · clear hl hc hs; revert g; decide +kernel
  · clear hl hc hs; revert g; decide +kernel
  · rw [hs, hc]; simp
  · clear hl hc hs; revert g; decide +kernel

theorem witness_keepsFiguresAndLinks :
    (waiting .yard yard).FiguresSound ∧ (waiting .yard yard).LinksSound ∧
      step (waiting .yard yard) = .next (waiting .yard yard).tick := by
  refine ⟨⟨by unfold figureSound; decide +kernel, by unfold figureSound; decide +kernel, by unfold figureSound; decide +kernel, ?_⟩,
    by unfold State.LinksSound; decide +kernel, step_idle _ (by decide +kernel) (by decide +kernel)⟩
  intro c hc
  have : (waiting .yard yard).yard.closedDay = none := by decide +kernel
  rw [this] at hc; cases hc

theorem witness_keepsAlerts : yard.RostersSound ∧ yard.AlertsSound ∧ step yard = .next yard.tick :=
  ⟨yard_rostersSound, yard_alertsSound, yard_step⟩

theorem witness_keepsInletsSafe :
    filling.BookSound ∧ filling.FillsWait ∧ filling.ConfigurationsSound ∧ filling.InletsSafe ∧ filling.OutletsSafe ∧
      step filling = .next filling.tick := by
  refine ⟨filling_bookSound, filling_fillsWait, configurationsSound_of _ (by decide +kernel), fun _ h => ⟨?_, ?_⟩,
    ⟨fun g => ?_, fun _ g => ⟨sendsSound_of _ (by decide +kernel) (by decide +kernel) g, fun h => ⟨?_, ?_, ?_, ?_⟩⟩⟩, filling_step⟩
  · revert h; decide +kernel
  · revert h; decide +kernel
  · revert g; unfold State.OneLeading; decide +kernel
  · revert g h; decide +kernel
  · revert g h; decide +kernel
  · revert g h; decide +kernel
  · revert g h; decide +kernel

/-- H1 leads G1 by the SEND of the book. -/
def leading : State :=
  let s := withValve (outletOf 0 0) .opened (withOrder (sendOrder .leading) yard)
  s.setGovernor 0 { s.governor 0 with lead := some ⟨0, .order 8⟩, status := .fed }

theorem leading_valvesSound : leading.ValvesSound := by
  intro v
  have hp : leading.power = .up := by decide +kernel
  rw [hp]
  have hd : ∀ v : ValveId, (leading.valve v).drive = (leading.valve v).state.drive := by decide +kernel
  have ht : ∀ v : ValveId, (leading.valve v).travel.isSome = true ↔
      (leading.valve v).state = .opening ∨ (leading.valve v).state = .closing := by decide +kernel
  have hf : ∀ v : ValveId, (leading.valveCfg v).fitted = true := by decide +kernel
  exact ⟨hd v, ht v, by rw [hf v]; simp⟩

theorem witness_keepsOutletsSafe :
    leading.BookSound ∧ leading.ValvesSound ∧ leading.OutletsSafe ∧ step leading = .next leading.tick := by
  refine ⟨⟨by decide +kernel, by decide +kernel, by decide +kernel, by decide +kernel, by decide +kernel⟩,
    leading_valvesSound, ⟨fun g => ?_, fun _ g => ⟨⟨?_, ?_, ?_, ?_⟩, fun h => ⟨?_, ?_, ?_, ?_⟩⟩⟩,
    step_idle _ (by decide +kernel) (by decide +kernel)⟩
  · revert g; unfold State.OneLeading; decide +kernel
  · revert g; decide +kernel
  · intro h n hs
    have hk : ∀ g : GovernorId, (leading.governor g).slot = none := by decide +kernel
    rw [hk g] at hs; cases hs
  · revert g; decide +kernel
  · revert g; decide +kernel
  · revert g h; decide +kernel
  · revert g h; decide +kernel
  · revert g h; decide +kernel
  · revert g h; decide +kernel

end Sys2Proof.Tests
end

section
/-! SUPPORT. The accounts unit (chapter 8): the increment of a meter answer, and what a day close leaves in each district's
account. That a close clears the CV_ASSUMED alerts rests on one invariant of a step: what waits to join the list is events
alone, so a condition joins it only where it holds at the step's end. -/

namespace Sys2Proof.Machine

variable {s : State}

/-! ## Increments (R146) -/

theorem increment_lt (last index : Nat) : increment last index < 1000000 := by
  unfold increment; omega

/-- In the integers an increment needs no detour around the truncated subtraction (R146). -/
theorem increment_eq_emod (last index : Nat) :
    (increment last index : Int) = ((index : Int) - (last : Int)) % 1000000 := by
  unfold increment; omega

/-- An answer whose index has not moved comes to nothing, whatever the maximum credible increment (R146). -/
theorem judgeMeter_of_increment_zero {last index : Nat} (h : increment last index = 0) (most : Nat) :
    judgeMeter (some last) index most = .nothing := by
  simp [judgeMeter, h]

theorem districtMeter_of_nothing {d : DistrictId} {st : StationSettings} {index : Nat}
    (h : judgeMeter (s.account d).lastIndex index st.maxIncrement = .nothing) (pressure : Nat) (temp : Int) :
    s.districtMeter d st index pressure temp = s := by
  simp [State.districtMeter, h]

theorem makeMeter_of_nothing {st : StationSettings} {index : Nat}
    (h : judgeMeter s.yard.lastMakeIndex index st.maxIncrement = .nothing) (pressure : Nat) (temp : Int) (cv : Nat) :
    s.makeMeter st index pressure temp cv = s := by
  simp [State.makeMeter, h]

/-! ## The accounts a day close leaves (R156) -/

theorem Frame.account {ps : List Part} {t : State} (f : Frame ps s t) (h : Part.accounts ∉ ps) (d : DistrictId) :
    t.account d = s.account d := by
  have same : t.accounts = s.accounts := f.parts .accounts h
  rw [State.account, State.account, same]

theorem Frame.district {ps : List Part} {t : State} (f : Frame ps s t) (h : Part.districts ∉ ps) (d : DistrictId) :
    t.district d = s.district d := by
  have same : t.districts = s.districts := f.parts .districts h
  rw [State.district, State.district, same]

/-- Changing each account of a list of districts once changes those of the list and no other. -/
theorem account_forEach_setAccount (f : Account → Account) (d : DistrictId) :
    ∀ (ds : List DistrictId) (s : State), ds.Nodup →
      (forEach ds (fun e t => t.setAccount e (f (t.account e))) s).account d =
        if d ∈ ds then f (s.account d) else s.account d
  | [], s, _ => by simp [forEach]
  | e :: ds, s, hds => by
    obtain ⟨he, hrest⟩ := List.nodup_cons.1 hds
    have rest := account_forEach_setAccount f d ds (s.setAccount e (f (s.account e))) hrest
    refine Eq.trans rest ?_
    by_cases hd : d = e
    · subst hd; simp [he]
    · simp [State.account_setAccount, hd, Ne.symm hd]

/-- The alerts of a closed day are events raised, so they keep whatever raising an event keeps (R158). -/
theorem balanceTests_keeps {P : State → Prop} (raised : ∀ t k, k.isEvent = true → P t → P (t.raise k 0)) (h : P s)
    (c : ClosedDay) : P (s.balanceTests c) := by
  have incomplete : P (if c.incomplete then s.raise .balanceIncomplete 0 else s) := by
    split
    · exact raised s _ rfl h
    · exact h
  unfold State.balanceTests
  dsimp only
  generalize (if c.incomplete then s.raise .balanceIncomplete 0 else s) = t at incomplete ⊢
  split
  · split
    · exact raised t _ rfl incomplete
    · exact incomplete
  · exact incomplete

/-- The alerts of a closed day touch the alerts alone. -/
theorem frame_balanceTests (c : ClosedDay) : Frame [.alerts] s (s.balanceTests c) :=
  balanceTests_keeps (fun _ _ _ h => h.trans (frame_raise _ _)) (Frame.refl s) c

/-- A day close touches the accounts, the yard's figures, the clock and the alerts alone. -/
theorem frame_dayClose : Frame [.accounts, .yard, .clock, .alerts] s s.dayClose :=
  ((((Frame.forEach (fun d t => frame_setAccount (s := t) d _) _ _).mono (by simp)).trans
    ((frame_setYard _).mono (by simp))).trans ((frame_balanceTests _).mono (by simp))).trans
    ((frame_setClock _).mono (by simp))

/-- A day close closes every district's account (R156). -/
theorem account_dayClose (d : DistrictId) : s.dayClose.account d = (s.account d).closed := by
  have every : ∀ e : DistrictId, e ∈ districtIds := by decide
  have closed := account_forEach_setAccount Account.closed d districtIds s (by decide)
  rw [if_pos (every d)] at closed
  refine Eq.trans ?_ closed
  exact (frame_balanceTests _).account (by simp) d

/-! ## Rebasing and the clock -/

theorem frame_rebase : Frame supplyParts s s.rebase :=
  Frame.forEach (fun g t => frame_rejudge (s := t) g noTriggers) _ _

/-- The state in which a day close finds the yard: the clock already at the close minute (R154). -/
def State.atNextMinute (s : State) : State :=
  s.setClock { s.clock with minute := nextMinute s.clock.minute, since := s.now }

/-- An advance to the close minute closes the day and recomputes the bases (R154, R156). -/
theorem advanceClock_of_close (h : nextMinute s.clock.minute = s.yardCfg.closeMinute) :
    s.advanceClock = s.atNextMinute.dayClose.rebase := by
  simp [State.advanceClock, State.atNextMinute, h]

/-- CLOCK_ADVANCE of a running module that reaches the close minute. -/
theorem exec_clockAdvance_of_close (hup : s.power = .up) (h : nextMinute s.clock.minute = s.yardCfg.closeMinute) :
    exec .clockAdvance s = .next s.atNextMinute.dayClose.rebase.settle := by
  simp [exec, execClockAdvance, hup, advanceClock_of_close h]

/-! ## What waits to join the alert list -/

/-- What waits to join the list at the step's end is events alone: conditions are judged there (R164, R165). -/
def State.EventsWait (s : State) : Prop := ∀ p ∈ s.alerts.fresh, p.cause.kind.isEvent = true

namespace State.EventsWait

/-- Between steps nothing waits (R164). -/
theorem of_fresh_nil (h : s.alerts.fresh = []) : s.EventsWait := by
  simp [State.EventsWait, h]

/-- An operation that leaves the alerts as they are keeps what waits. -/
theorem of_frame {ps : List Part} {t : State} (h : s.EventsWait) (f : Frame ps s t) (ha : Part.alerts ∉ ps) :
    t.EventsWait := by
  have same : t.alerts = s.alerts := f.parts .alerts ha
  simpa [State.EventsWait, same] using h

theorem setGovernor (h : s.EventsWait) (g : GovernorId) (x : Governor) : (s.setGovernor g x).EventsWait :=
  h.of_frame (frame_setGovernor g x) (by simp)

theorem command (h : s.EventsWait) (v : ValveId) (w : Toward) : (s.command v w).EventsWait :=
  h.of_frame (frame_command v w) (by simp)

theorem putOrder (h : s.EventsWait) (o : Order) : (s.putOrder o).EventsWait :=
  h.of_frame (frame_putOrder o) (by simp)

theorem reportClearings (h : s.EventsWait) : s.reportClearings.EventsWait := h

/-- Of the operations, raise alone adds to what waits, and owners raise events. -/
theorem raise (h : s.EventsWait) {k : CauseKind} (hk : k.isEvent = true) (item : Nat) : (s.raise k item).EventsWait := by
  have again : ∀ (c : Cause) (p : Pending),
      (if p.cause = c then p.raisedAgain s.clock.minute else p).cause = p.cause := by
    intro c p; split <;> rfl
  unfold State.raise
  dsimp only
  split
  · exact h
  split
  · exact h
  split
  · simpa [State.EventsWait, raiseIn, again] using h
  · intro p hp
    rcases List.mem_append.1 hp with old | new
    · exact h p old
    · rw [List.mem_singleton.1 new]; exact hk

theorem forEach {ι : Type} {f : ι → State → State} (hf : ∀ x t, t.EventsWait → (f x t).EventsWait) :
    ∀ (xs : List ι) {s : State}, s.EventsWait → (forEach xs f s).EventsWait
  | [], _, h => h
  | x :: xs, _, h => forEach hf xs (hf x _ h)

theorem endOrder (h : s.EventsWait) (n : Nat) (r : EndReason) : (s.endOrder n r).EventsWait := by
  unfold State.endOrder
  repeat' split
  · exact h
  · exact h
  · exact (h.putOrder _).raise rfl n

theorem endWhere (h : s.EventsWait) (f : Order → Bool) (r : EndReason) : (s.endWhere f r).EventsWait :=
  forEach (fun o _ ht => ht.endOrder o.number r) _ h

theorem refresh (h : s.EventsWait) (g : GovernorId) : (s.refresh g).EventsWait :=
  (h.setGovernor g _).reportClearings

theorem makeLead (h : s.EventsWait) (g : GovernorId) (k : HolderId) (o : LeadOrigin) : (s.makeLead g k o).EventsWait := by
  have lead := h.setGovernor g { s.governor g with lead := some ⟨k, o⟩, slot := none }
  unfold State.makeLead
  dsimp only
  repeat' split
  · exact (((lead.endWhere _ _).setGovernor g _).refresh g).raise rfl _
  · exact lead.endWhere _ _
  · exact ((((lead.command _ _).endWhere _ _).setGovernor g _).refresh g).raise rfl _

theorem startSend (h : s.EventsWait) (g : GovernorId) (o : Order) : (s.startSend g o).EventsWait := by
  unfold State.startSend
  dsimp only
  repeat' split
  · exact h.endOrder _ _
  · exact ((((h.putOrder _).setGovernor g _).command _ _).makeLead g _ _).putOrder _
  · exact ((h.putOrder _).setGovernor g _).command _ _

theorem sendQueue : ∀ (k : Nat) (g : GovernorId) {s : State}, s.EventsWait → (s.sendQueue k g).EventsWait
  | 0, _, _, h => h
  | k + 1, g, _, h => by
    unfold State.sendQueue
    split
    · exact h
    · exact sendQueue k g (h.startSend g _)

theorem startAutomatic (h : s.EventsWait) (g : GovernorId) (k : HolderId) : (s.startAutomatic g k).EventsWait := by
  unfold State.startAutomatic
  dsimp only
  split
  · exact ((h.setGovernor g _).command _ _).makeLead g k _
  · exact (h.setGovernor g _).command _ _

theorem attempt (h : s.EventsWait) (g : GovernorId) (w : Triggers) : (s.attempt g w).EventsWait := by
  unfold State.attempt
  split
  · exact h.startAutomatic g _
  · exact (h.setGovernor g _).raise rfl _

theorem takeDeferred (h : s.EventsWait) (g : GovernorId) : (s.takeDeferred g).EventsWait := by
  unfold State.takeDeferred
  dsimp only
  split
  · exact (h.setGovernor g _).attempt g _
  · exact h.setGovernor g _

theorem slotFreedIn : ∀ (k : Nat) (g : GovernorId) {s : State}, s.EventsWait → (s.slotFreedIn k g).EventsWait
  | 0, _, _, h => h
  | k + 1, g, _, h => by
    unfold State.slotFreedIn
    dsimp only
    split
    · exact sendQueue _ g h
    · exact slotFreedIn k g ((sendQueue _ g h).takeDeferred g)

theorem trigger (h : s.EventsWait) (g : GovernorId) (w : Triggers) : (s.trigger g w).EventsWait := by
  unfold State.trigger State.afterAttempt
  repeat' split
  · exact h
  · exact h.setGovernor g _
  · exact slotFreedIn 2 g (h.attempt g w)
  · exact h.attempt g w

theorem rejudge (h : s.EventsWait) (g : GovernorId) (w : Triggers) : (s.rejudge g w).EventsWait :=
  (h.refresh g).trigger g _

theorem rebase (h : s.EventsWait) : s.rebase.EventsWait :=
  forEach (fun g _ ht => ht.rejudge g noTriggers) _ h

theorem balanceTests (h : s.EventsWait) (c : ClosedDay) : (s.balanceTests c).EventsWait :=
  balanceTests_keeps (fun _ _ hk ht => ht.raise hk 0) h c

theorem dayClose (h : s.EventsWait) : s.dayClose.EventsWait := by
  unfold State.dayClose
  refine of_frame (balanceTests (of_frame ?_ (frame_setYard _) (by simp)) _) (frame_setClock _) (by simp)
  exact forEach (fun d _ ht => ht.of_frame (frame_setAccount d _) (by simp)) _ h

end State.EventsWait

/-! ## What the list holds at the end of a step -/

theorem mem_insertPending (p q : Pending) : ∀ ps : List Pending, q ∈ insertPending p ps ↔ q = p ∨ q ∈ ps
  | [] => by simp [insertPending]
  | x :: xs => by
    unfold insertPending
    split
    · simp
    · simp [mem_insertPending p q xs, or_left_comm]

/-- Ordering the instances that join drops none and adds none. -/
theorem mem_orderJoining (q : Pending) (ps : List Pending) : q ∈ orderJoining ps ↔ q ∈ ps := by
  have folded : ∀ (ps acc : List Pending),
      q ∈ ps.foldl (fun acc p => insertPending p acc) acc ↔ q ∈ acc ∨ q ∈ ps := by
    intro ps
    induction ps with
    | nil => simp
    | cons p ps ih => intro acc; simp [ih, mem_insertPending, or_assoc, or_left_comm]
  simpa [orderJoining] using folded ps []

/-- A condition in the list at the end of a step holds there (R165). -/
theorem mem_settle_list (h : s.EventsWait) {p : Pending} (hp : p ∈ s.settle.alerts.list) :
    p.cause.kind.isEvent = true ∨ p.cause ∈ s.conditionsHolding := by
  have joined : p ∈ s.reportClearings.alerts.list ∨ p ∈ s.alerts.fresh ∨
      ∃ c ∈ s.conditionsHolding, s.arising c = p := by
    have parts : p ∈ s.reportClearings.alerts.list ++ orderJoining _ := hp
    rw [List.mem_append, mem_orderJoining, List.mem_append] at parts
    refine parts.imp_right (Or.imp_right fun arisen => ?_)
    obtain ⟨c, hc, rfl⟩ := List.mem_map.1 arisen
    exact ⟨c, (List.mem_filter.1 hc).1, rfl⟩
  rcases joined with stays | waited | ⟨c, holds, rfl⟩
  · exact ((State.mem_reportClearings_list p).1 stays).2
  · exact .inl (h p waited)
  · exact .inr holds

/-- CV_ASSUMED holds of a district only with its flag of today set. -/
theorem cvAssumed_of_mem_conditionsHolding {d : DistrictId} (h : ⟨.cvAssumed, d.val + 1⟩ ∈ s.conditionsHolding) :
    (s.account d).today.cvAssumed = true := by
  obtain ⟨k, -, hk⟩ := List.mem_flatMap.1 h
  obtain ⟨item, hitem, hcause⟩ := List.mem_map.1 hk
  obtain ⟨rfl, rfl⟩ := Cause.mk.inj hcause
  obtain ⟨e, he, hde⟩ := List.mem_map.1 hitem
  have same : e = d := Fin.ext (Nat.succ.inj hde)
  exact same ▸ (List.mem_filter.1 he).2

/-- With the flag of a district clear at the end of a step, no CV_ASSUMED alert of it is pending. -/
theorem settle_not_cvAssumed (h : s.EventsWait) {d : DistrictId} (hd : (s.account d).today.cvAssumed = false) :
    ¬ s.settle.isPending .cvAssumed (d.val + 1) := by
  rintro ⟨p, hp, hc⟩
  rcases mem_settle_list h hp with event | holds
  · rw [hc] at event; cases event
  · rw [hc] at holds
    rw [cvAssumed_of_mem_conditionsHolding holds] at hd; cases hd

/-! ## The obligations -/

/-- Settles O43: in the integers the increment is the difference modulo 1,000,000, and one of 0 is judged to come to
nothing. -/
theorem incrementIsTheIndexDifference : Obligations.IncrementIsTheIndexDifference := by
  refine ⟨fun last index => ⟨increment_lt last index, increment_eq_emod last index⟩, by decide,
    fun d st last index pressure temp s hlast hinc => ?_, fun st last index pressure cv temp s hlast hinc => ?_⟩
  · exact districtMeter_of_nothing (hlast ▸ judgeMeter_of_increment_zero hinc _) pressure temp
  · exact makeMeter_of_nothing (hlast ▸ judgeMeter_of_increment_zero hinc _) pressure temp cv

/-- Settles O44: the close itself moves the figures; what follows it in a CLOCK_ADVANCE touches no account, district or
line, and the alert unit then finds every flag clear. -/
theorem dayCloseMovesTheDistrictFigures : Obligations.DayCloseMovesTheDistrictFigures := by
  refine ⟨fun s d => ?_, fun s hup hs hclose => ⟨_, exec_clockAdvance_of_close hup hclose, fun d => ?_⟩⟩
  · rw [account_dayClose]
    exact ⟨rfl, rfl, rfl, frame_dayClose.district (by simp) d, frame_dayClose.parts .line (by simp)⟩
  · have moved : Frame [.clock] s s.atNextMinute := frame_setClock _
    have whole : Frame ([.accounts, .yard, .clock, .alerts] ++ supplyParts) s s.atNextMinute.dayClose.rebase.settle :=
      (moved.mono (by simp)).trans ((frame_dayClose.mono (by simp)).trans
        ((frame_rebase.mono (by simp)).trans (frame_settle.mono (by simp))))
    have rebased : s.atNextMinute.dayClose.rebase.account d = (s.account d).closed := by
      rw [frame_rebase.account (by simp), account_dayClose, moved.account (by simp)]
    have waits : s.atNextMinute.EventsWait := (State.EventsWait.of_fresh_nil hs.fresh).of_frame moved (by simp)
    rw [frame_settle.account (by simp), rebased]
    exact ⟨rfl, rfl, rfl, whole.district (by simp) d, whole.parts .line (by simp),
      settle_not_cvAssumed waits.dayClose.rebase (by rw [rebased]; rfl)⟩

end Sys2Proof.Machine
end
